-- ==== Sys2Proof/Word.lean ====
section
/-! DEFINITION. The two word types of the machine (spec/00_scope.md R5: 8-bit data, 16-bit addresses).

Everything a repair could have to mend (byte order, sign extension, field extraction) stands in
Sys2Proof/Machine/Bits.lean, not here. -/

namespace Sys2Proof

/-- An 8-bit datum: A, X, Y, SP, P and the bus data (R5). -/
abbrev Byte := BitVec 8

/-- A 16-bit address or PC (R5). Its arithmetic is modulo 65 536 (R8). -/
abbrev Word := BitVec 16

end Sys2Proof
end

