-- ==== Sys2Proof/Config.lean ====
section
/-! DEFINITION. What is fixed for one machine: the open parameters of spec/00_scope.md R6 (a record the
state carries and no instruction writes), the fixed constants of R5, and the one free value. -/

namespace Sys2Proof

/-- The addressing modes (spec/30_encoding.md R144). -/
inductive Mode where
  | implied
  | accumulator
  | immediate
  | zeroPage
  | zeroPageX
  | zeroPageY
  | absolute
  | absoluteX
  | absoluteY
  | indirect
  | indexedIndirect
  | indirectIndexed
  | relative
deriving DecidableEq, Repr

/-- What opcode $00 does (R6, R294): the vectored trap of the hardware, or the halt of the reference program. -/
inductive BrkMode where
  | vector
  | halt
deriving DecidableEq, Repr

/-- One row of the SIZE, CYCLES and PAGECYCLES tables (R141): bytes, base cycles, page-cross penalty. -/
structure OpCost where
  size : Nat
  cycles : Nat
  pageCycles : Nat
deriving DecidableEq, Repr

/-- One entry of ILLEGAL_TABLE (R302): the MODE, SIZE, CYCLES and PAGECYCLES of an undocumented opcode. -/
structure IllegalEntry where
  mode : Mode
  cost : OpCost
deriving DecidableEq, Repr

/-- One colour of the palette, 8 bits a channel (R5, R457). -/
structure Rgba where
  red : Byte
  green : Byte
  blue : Byte
  alpha : Byte
deriving DecidableEq, Repr

/-- The open parameters of the machine (R6). The ROM images are sparse: the listed (offset, byte) pairs
in rising order, every unlisted offset reading 0. `illegalTable` lists the undocumented opcodes whose
ILLEGAL_TABLE entry (R302) is not the default of R153; the empty list is the default table.
`colorEnabled` and `MONO_COLOR` are host settings that a host event may change, so they stand in
the state and not here. -/
structure Params where
  sysRom : List Host.Cell
  bootProm : List Host.Cell
  charRom : List Host.Cell
  palette : List Rgba
  dhrFrom : List (BitVec 16)
  dhrTo : List (BitVec 16)
  volume : Byte
  illegalTable : List (Byte × IllegalEntry)
  brkMode : BrkMode
deriving DecidableEq, Repr

namespace Config

/-- The parameters `State.reset` carries: the defaults of R6 and R468 where the spec gives one
(VOLUME 254, BRK_MODE vector, the no-interference double-hi-res tables, the table of R153); for the
contents the spec does not give, all-zero ROM images and a palette of zeros.
DESIGN CHOICE (log entry 1): the zero contents. Unsafe for a claim about the reset state alone. -/
def defaultParams : Params where
  sysRom := []
  bootProm := []
  charRom := []
  palette := List.replicate 16 ⟨0, 0, 0, 0⟩
  dhrFrom := (List.range 256).map fun k => BitVec.ofNat 16 (k / 16 * 0x1111)
  dhrTo := List.replicate 256 0
  volume := 254
  illegalTable := []
  brkMode := .vector

/-- The levels the four input mirrors take at a warm Reset, which the spec leaves unspecified
(R42, R542): a FREE VALUE, applied to the counter `State.freeCount`. It has no body, so no proof
can learn a value of it (log entry 6). -/
opaque freeMirror : Nat → Bool

/-- Cycles in one frame (R5, R510). -/
def frameLength : Nat := 17030

/-- The per-frame cycle count at which VBLANK ends (R5, R511). -/
def vblankEnd : Nat := 4550

/-- Bytes of a disk image (R5, R422). -/
def imageSize : Nat := 143360

end Config

end Sys2Proof
end

