-- ==== Sys2Proof/Machine/Bits.lean ====
section
/-! DEFINITION. Byte order, extension and field extraction (spec/00_scope.md R7 to R9): the notation of
the rules, each written once. -/

namespace Sys2Proof.Machine

/-- `{h, l}`, the 16-bit concatenation h * 256 + l (R7). -/
def wordOf (h l : Byte) : Word := h ++ l

/-- `w[15:8]`, the page of an address (R7). -/
def hiByte (w : Word) : Byte := w.extractLsb' 8 8

/-- `w[7:0]` (R7). -/
def loByte (w : Word) : Byte := w.extractLsb' 0 8

/-- `zext_16(b)` (R9). -/
def zext16 (b : Byte) : Word := b.setWidth 16

/-- `sext_16(b)`: b if b < 128, else b + $FF00 (R9). -/
def sext16 (b : Byte) : Word := b.signExtend 16

/-- `flag80(f)`: $80 if f is true, else $00 (R103). -/
def flag80 (f : Bool) : Byte := if f then 0x80 else 0x00

/-- Byte number `k` of a number that holds an instruction's bytes, the first byte least significant
(the numbering of spec/opcode_table.json, and the ascending byte order of R142). -/
def byteAt (w k : Nat) : Byte := BitVec.ofNat 8 (w / 256 ^ k)

end Sys2Proof.Machine
end

