-- ==== Sys2Proof/Machine/Memory.lean ====
section
/-! DEFINITION. Sparse byte stores in one canonical form, and the three kinds of store the machine has:
a 64 KiB RAM bank (spec/10_state.md R37), a ROM image (R38) and a disk image (spec/46_disk2_gcr.md R422). -/

namespace Sys2Proof.Machine

/-- A sparse store: (address, byte) pairs. -/
abbrev Cells := List Host.Cell

/-- The byte a store holds at `a`; `d` says what an unlisted address reads as. -/
def Cells.read (d : Nat → Byte) (a : Nat) : Cells → Byte
  | [] => d a
  | (b, v) :: rest => if a = b then v else Cells.read d a rest

/-- The store without any entry for `a`. -/
def Cells.erase (a : Nat) : Cells → Cells
  | [] => []
  | (b, w) :: rest => if a = b then Cells.erase a rest else (b, w) :: Cells.erase a rest

/-- The store with an entry (a, v) put before the first entry of a higher address. -/
def Cells.place (a : Nat) (v : Byte) : Cells → Cells
  | [] => [(a, v)]
  | (b, w) :: rest => if a < b then (a, v) :: (b, w) :: rest else (b, w) :: Cells.place a v rest

/-- The store after writing `v` at `a`. Writing what an unlisted address reads as removes the entry, so
equal stores are equal lists. -/
def Cells.write (d : Nat → Byte) (a : Nat) (v : Byte) (m : Cells) : Cells :=
  if v = d a then Cells.erase a m else Cells.place a v (Cells.erase a m)

/-- Every entry is at an address of [lo, bound), the addresses rise strictly, and no entry equals what
its address reads as when unlisted. -/
def Cells.wfFrom (d : Nat → Byte) (bound lo : Nat) : Cells → Bool
  | [] => true
  | (a, v) :: rest => decide (lo ≤ a) && decide (a < bound) && decide (v ≠ d a) && Cells.wfFrom d bound (a + 1) rest

/-- The canonical form of a store of `bound` bytes. -/
def Cells.wf (d : Nat → Byte) (bound : Nat) (m : Cells) : Bool := Cells.wfFrom d bound 0 m

/-- One 64 KiB RAM bank (R37). -/
abbrev Memory := Cells

/-- What an unlisted RAM address reads as: the power-on pattern FF FF 00 00 (R37, R548). -/
def powerOnByte (a : Nat) : Byte := if a % 4 < 2 then 0xFF else 0x00

/-- The byte of a RAM bank at an offset. -/
def Memory.read (m : Memory) (a : Nat) : Byte := Cells.read powerOnByte a m

/-- A RAM bank after a store of one byte. -/
def Memory.write (m : Memory) (a : Nat) (v : Byte) : Memory := Cells.write powerOnByte a v m

/-- The canonical form of a RAM bank. -/
def Memory.wf (m : Memory) : Bool := Cells.wf powerOnByte 65536 m

/-- What an unlisted offset of a ROM or disk image reads as. -/
def zeroByte (_ : Nat) : Byte := 0x00

/-- The byte of a ROM image at an offset (R38). -/
def romRead (m : Cells) (off : Nat) : Byte := Cells.read zeroByte off m

/-- A disk image file as the host supplies it: its length in bytes and its non-zero bytes (R422). -/
structure DiskImage where
  size : Nat
  cells : Cells
deriving DecidableEq, Repr

/-- Byte `i` of the image. -/
def DiskImage.byte (img : DiskImage) (i : Nat) : Byte := Cells.read zeroByte i img.cells

end Sys2Proof.Machine
end

