-- ==== Sys2Proof/Machine/State.lean ====
section
/-! DEFINITION. Everything the spec gives the machine (spec/10_state.md), as plain data; the two ways a
step can stop; the machine right after the power-on Reset (R47). -/

namespace Sys2Proof.Machine

/-- The CPU (R20 to R26, R33 to R35). `al` is the effective-address latch. `irq` and `nmi` are the levels
on the two interrupt input lines, which no rule reads. -/
structure Cpu where
  a : Byte
  x : Byte
  y : Byte
  sp : Byte
  p : Byte
  pc : Word
  al : Word
  cycleCount : BitVec 64
  irq : Bool
  nmi : Bool
deriving DecidableEq, Repr

/-- The direction of a bus access (R70). -/
inductive Rw where
  | read
  | write
deriving DecidableEq, Repr

/-- The bus lines and the fast-mode flag (R36). -/
structure BusLines where
  addr : Word
  data : Byte
  rw : Rw
  fastMode : Bool
deriving DecidableEq, Repr

/-- The sixteen soft switches (R40) and the language-card pre-arm latch (R41). -/
structure Switches where
  store80 : Bool
  rdMain : Bool
  wrMain : Bool
  intCxRom : Bool
  mainZp : Bool
  slotC3Rom : Bool
  vid80 : Bool
  altChar : Bool
  text : Bool
  mixed : Bool
  page2 : Bool
  hires : Bool
  dblHires : Bool
  lcRam : Bool
  lcBnk2 : Bool
  lcWrite : Bool
  preWrite : Bool
deriving DecidableEq, Repr

/-- The four flags that mirror inputs from outside the CPU (R42). -/
structure Mirrors where
  vblank : Bool
  openApple : Bool
  filledApple : Bool
  shift : Bool
deriving DecidableEq, Repr

/-- The Disk II controller and its two drives (R43, R44). A diskette is held as the image it was made
from; its track streams are the encoder's function of that image (spec/46_disk2_gcr.md R420, R429). -/
structure Disk where
  motorOn : Bool
  drive2 : Bool
  phase : Fin 4
  track : Fin 35
  pos : Fin 6656
  q6 : Bool
  q7 : Bool
  dataLatch : Byte
  disk1 : Option DiskImage
  disk2 : Option DiskImage
deriving DecidableEq, Repr

/-- The frame sequencer (R46, R510). `running` is the model's own: false until the start-of-run action of
R510 has been performed, which happens before the first tick. -/
structure Sequencer where
  frameCycles : Nat
  running : Bool
deriving DecidableEq, Repr

/-- The three modifier keys that drive a mirror flag (R515). -/
inductive Modifier where
  | shift
  | openApple
  | filledApple
deriving DecidableEq, Repr

/-- The seven named keys (R515). -/
inductive NamedKey where
  | left
  | right
  | up
  | down
  | escape
  | return
  | delete
deriving DecidableEq, Repr

/-- What the host may do between two ticks (R515). -/
inductive HostEvent where
  | keyDown (ascii : BitVec 7)
  | printableKey (code : Byte)
  | namedKey (key : NamedKey)
  | modifierKey (key : Modifier) (pressed : Bool)
  | controlKey (pressed : Bool)
  | resetKey
  | insertDisk (inDrive2 : Bool) (img : DiskImage)
  | ejectDisk (inDrive2 : Bool)
  | setColor (enabled : Bool)
  | setMonoColor (index : BitVec 4)
deriving DecidableEq, Repr

/-- The host's side of the machine. `schedule` and `draws` are the model's own: the inputs still to come
(R558). The head of `schedule` is the list of events the host delivers before the next tick;
`draws` are the values the host gives to coming reads of $C019 and $C061 to $C063 (R42), and when
it is empty such a read returns the mirror flag. `controlHeld` gates the Reset key (R515);
`colorEnabled` and `monoColor` are the rasterizer's host settings (R470). -/
structure HostSide where
  schedule : List (List HostEvent)
  draws : List Bool
  controlHeld : Bool
  colorEnabled : Bool
  monoColor : BitVec 4
deriving DecidableEq, Repr

/-- The machine. `freeCount` is the model's own: the number of free values used so far (log entry 6). -/
structure State where
  cpu : Cpu
  bus : BusLines
  main : Memory
  aux : Memory
  kbd : Byte
  sw : Switches
  mirrors : Mirrors
  disk : Disk
  seq : Sequencer
  host : HostSide
  params : Params
  freeCount : Nat
deriving DecidableEq, Repr

/-- Why the machine stops. -/
inductive Fault where
  /-- Raised by BRK ($00) when `BRK_MODE = halt` (R294): the run ends at the BRK. Safe: the spec gives
  this mode no successor state. It never arises with the default `BRK_MODE = vector`. -/
  | brkHalt
deriving DecidableEq, Repr

/-- Why the model gives an instruction no meaning. -/
inductive Refusal where
  /-- Raised by no arm of `exec`: every constructor of `Instr` has its meaning. Safe. -/
  | notModelled (mnemonic : String)
deriving DecidableEq, Repr

/-- What a meaning answers. -/
abbrev Result := Host.Outcome State Fault Refusal

/-- The soft switches after the memory controller's reset (R542). -/
def Switches.atReset : Switches where
  store80 := false
  rdMain := true
  wrMain := true
  intCxRom := false
  mainZp := true
  slotC3Rom := false
  vid80 := false
  altChar := false
  text := false
  mixed := false
  page2 := false
  hires := false
  dblHires := false
  lcRam := false
  lcBnk2 := false
  lcWrite := false
  preWrite := false

/-- The disk controller at power-on (R43). -/
def Disk.atPowerOn : Disk where
  motorOn := false
  drive2 := false
  phase := 0
  track := 0
  pos := 0
  q6 := false
  q7 := false
  dataLatch := 0
  disk1 := none
  disk2 := none

/-- The machine with parameters `p` right after the power-on Reset (R47, R540, R545). The bus lines are as
the vector's second byte read leaves them (R36, log entry 8). -/
def State.resetWith (p : Params) : State where
  cpu :=
    { a := 0, x := 0, y := 0, sp := 0xFD, p := 0x24
      pc := wordOf (romRead p.sysRom 0x3FFD) (romRead p.sysRom 0x3FFC)
      al := 0, cycleCount := 0, irq := false, nmi := false }
  bus := { addr := 0xFFFD, data := romRead p.sysRom 0x3FFD, rw := .read, fastMode := false }
  main := []
  aux := []
  kbd := 0
  sw := Switches.atReset
  mirrors := { vblank := false, openApple := false, filledApple := false, shift := false }
  disk := Disk.atPowerOn
  seq := { frameCycles := 0, running := false }
  host := { schedule := [], draws := [], controlHeld := false, colorEnabled := true, monoColor := 12 }
  params := p
  freeCount := 0

/-- The machine right after reset, with the default parameters (R6, R47). -/
def State.reset : State := State.resetWith Config.defaultParams

end Sys2Proof.Machine
end

