-- ==== Sys2Proof/Machine/Gcr.lean ====
section
/-! DEFINITION. The 6-and-2 GCR track encoder and its inverse (spec/46_disk2_gcr.md R420 to R434). A track
stream is given by its byte at each position; `trackStream` lists the whole of it. -/

namespace Sys2Proof.Machine

/-- Only an image of exactly 143 360 bytes is ever inserted (R416, R429); its listed bytes are in
canonical form. -/
def DiskImage.wf (img : DiskImage) : Bool :=
  decide (img.size = Config.imageSize) && Cells.wf zeroByte Config.imageSize img.cells

/-- The sector interleave IL (R422). -/
def interleave : List Nat := [0, 7, 14, 6, 13, 5, 12, 4, 11, 3, 10, 2, 9, 1, 8, 15]

/-- The image offset of data byte `i` of the sector at position `sec` of track `t` (R422). -/
def sectorOffset (t sec i : Nat) : Nat := (t * 16 + interleave.getD sec 0) * 256 + i

/-- `translateTable62` (R426). -/
def translateTable62 : List Byte :=
  [0x96, 0x97, 0x9A, 0x9B, 0x9D, 0x9E, 0x9F, 0xA6] ++
  [0xA7, 0xAB, 0xAC, 0xAD, 0xAE, 0xAF, 0xB2, 0xB3] ++
  [0xB4, 0xB5, 0xB6, 0xB7, 0xB9, 0xBA, 0xBB, 0xBC] ++
  [0xBD, 0xBE, 0xBF, 0xCB, 0xCD, 0xCE, 0xCF, 0xD3] ++
  [0xD6, 0xD7, 0xD9, 0xDA, 0xDB, 0xDC, 0xDD, 0xDE] ++
  [0xDF, 0xE5, 0xE6, 0xE7, 0xE9, 0xEA, 0xEB, 0xEC] ++
  [0xED, 0xEE, 0xEF, 0xF2, 0xF3, 0xF4, 0xF5, 0xF6] ++
  [0xF7, 0xF9, 0xFA, 0xFB, 0xFC, 0xFD, 0xFE, 0xFF]

/-- `T62[v]` (R426). -/
def translate62 (v : BitVec 6) : Byte := translateTable62.getD v.toNat 0

/-- `U`, the inverse of T62 (R428): the index of a disk byte, if it has one. -/
def untranslate62 (b : Byte) : Option (BitVec 6) :=
  (translateTable62.findIdx? (· == b)).map (BitVec.ofNat 6)

/-- The two bytes of the 4-and-4 code of `v` (R424). -/
def encode44 (v : Byte) : Byte × Byte := ((v >>> 1) ||| 0xAA, v ||| 0xAA)

/-- The byte a 4-and-4 pair stands for (R424). -/
def decode44 (b1 b2 : Byte) : Byte := ((b1 <<< 1) ||| 1) &&& b2

/-- `rev2(b)`: the low two bits of b, swapped (R427). -/
def rev2 (b : Byte) : BitVec 2 := b.extractLsb' 0 1 ++ b.extractLsb' 1 1

/-- The two bits 5:4 of q[84] and q[85] that no data byte fills (R427). -/
def spareBits : BitVec 2 := 0

/-- The 342 six-bit values `q[0..341]` of the 256 data bytes `d` (R427). -/
def sixBit (d : Nat → Byte) (j : Nat) : BitVec 6 :=
  if j ≤ 85 then
    (if j ≤ 83 then rev2 (d (j + 172)) else spareBits) ++ rev2 (d (j + 86)) ++ rev2 (d j)
  else (d (j - 86)).extractLsb' 2 6

/-- The 343 disk bytes `out[0..342]` of the data field: the running exclusive-or, then the table (R427). -/
def dataField (d : Nat → Byte) (k : Nat) : Byte :=
  if k = 0 then translate62 (sixBit d 0)
  else if k ≤ 341 then translate62 (sixBit d k ^^^ sixBit d (k - 1))
  else translate62 (sixBit d 341)

/-- The byte at offset `off` of the 416-byte sector record (R423). -/
def sectorByte (vol trk sec : Byte) (d : Nat → Byte) (off : Nat) : Byte :=
  if off < 48 then 0xFF
  else if off < 51 then [0xD5, 0xAA, 0x96].getD (off - 48) 0
  else if off = 51 then (encode44 vol).1
  else if off = 52 then (encode44 vol).2
  else if off = 53 then (encode44 trk).1
  else if off = 54 then (encode44 trk).2
  else if off = 55 then (encode44 sec).1
  else if off = 56 then (encode44 sec).2
  else if off = 57 then (encode44 (vol ^^^ trk ^^^ sec)).1
  else if off = 58 then (encode44 (vol ^^^ trk ^^^ sec)).2
  else if off < 62 then [0xDE, 0xAA, 0xEB].getD (off - 59) 0
  else if off < 67 then 0xFF
  else if off < 70 then [0xD5, 0xAA, 0xAD].getD (off - 67) 0
  else if off < 413 then dataField d (off - 70)
  else [0xDE, 0xAA, 0xEB].getD (off - 413) 0

/-- `Tracks[t][pos]` of an image (R420): sixteen records of 416 bytes, in sector order. -/
def trackByte (vol : Byte) (img : DiskImage) (t pos : Nat) : Byte :=
  let sec := pos / 416
  sectorByte vol (BitVec.ofNat 8 t) (BitVec.ofNat 8 sec) (fun i => img.byte (sectorOffset t sec i)) (pos % 416)

/-- `Tracks[t]` as a list of 6 656 bytes (R420, R44). -/
def trackStream (vol : Byte) (img : DiskImage) (t : Nat) : List Byte :=
  (List.range 6656).map (trackByte vol img t)

/-- The six-bit values recovered from a data field, by the running exclusive-or (R428). A byte outside
the table counts as 0. -/
def recoverSixBit (inp : Nat → Byte) : Nat → BitVec 6
  | 0 => (untranslate62 (inp 0)).getD 0
  | k + 1 => (untranslate62 (inp (k + 1))).getD 0 ^^^ recoverSixBit inp k

/-- Is the data field good: does its checksum byte cancel the last value (R428)? -/
def dataFieldGood (inp : Nat → Byte) : Bool := recoverSixBit inp 342 == 0

/-- Data byte `i` recovered from a data field (R428). -/
def recoverByte (inp : Nat → Byte) (i : Nat) : Byte :=
  let low := (recoverSixBit inp (i % 86) >>> (2 * (i / 86))).setWidth 2
  recoverSixBit inp (86 + i) ++ rev2 (low.setWidth 8)

end Sys2Proof.Machine
end

