-- ==== Sys2Proof/Machine/DiskController.lean ====
section
/-! DEFINITION. The Disk II controller at $C0E0 to $C0EF (spec/46_disk2_gcr.md R400 to R415). -/

namespace Sys2Proof.Machine

/-- One track inward, clamped at 34 (R404). -/
def trackUp (t : Fin 35) : Fin 35 := if h : t.val + 1 < 35 then ⟨t.val + 1, h⟩ else t

/-- One track outward, clamped at 0 (R404). -/
def trackDown (t : Fin 35) : Fin 35 := ⟨t.val - 1, Nat.lt_of_le_of_lt (Nat.sub_le _ _) t.isLt⟩

/-- `(pos + 1) mod 6656` (R411). -/
def posNext (p : Fin 6656) : Fin 6656 := ⟨(p.val + 1) % 6656, Nat.mod_lt _ (by decide)⟩

/-- `phase_change(n)` (R404). -/
def phaseChange (n : Fin 4) (d : Disk) : Disk :=
  { d with
    track :=
      if d.phase = n - 1 then trackUp d.track
      else if d.phase = n + 1 then trackDown d.track
      else d.track
    phase := n }

/-- The diskette in the selected drive (R410, R411). -/
def selectedDisk (d : Disk) : Option DiskImage := if d.drive2 then d.disk2 else d.disk1

/-- Is a diskette in either drive (R409)? -/
def anyDisk (d : Disk) : Bool := d.disk1.isSome || d.disk2.isSome

/-- The read pulse's change of the controller, after the old latch has been driven (R411). -/
def readPulse (vol : Byte) (d : Disk) : Disk :=
  match selectedDisk d with
  | some img =>
    if !d.q6 && !d.q7 && d.motorOn then
      { d with dataLatch := trackByte vol img d.track.val d.pos.val, pos := posNext d.pos, q6 := false }
    else { d with dataLatch := 0, q6 := false }
  | none => { d with dataLatch := 0, q6 := false }

/-- The controller's transition at address `$C0E0 + n` (R402). The direction and the data byte of the access
are not looked at (R400). -/
def diskTransition (n : Nat) (s : State) : State :=
  match n with
  | 0x1 => { s with disk := phaseChange 0 s.disk }
  | 0x3 => { s with disk := phaseChange 1 s.disk }
  | 0x5 => { s with disk := phaseChange 2 s.disk }
  | 0x7 => { s with disk := phaseChange 3 s.disk }
  | 0x8 => { s with disk := { s.disk with motorOn := false }, bus := { s.bus with fastMode := false } }
  | 0x9 =>
    { s with
      disk := { s.disk with motorOn := true }
      bus := { s.bus with fastMode := if anyDisk s.disk then true else s.bus.fastMode } }
  | 0xA => { s with disk := { s.disk with drive2 := false } }
  | 0xB => { s with disk := { s.disk with drive2 := true } }
  | 0xC => { s with disk := readPulse s.params.volume s.disk }
  | 0xD => { s with disk := { s.disk with q6 := true } }
  | 0xE => { s with disk := { s.disk with q7 := false } }
  | 0xF => { s with disk := { s.disk with q7 := true } }
  | _ => s

/-- Does the controller drive the data lines at `$C0E0 + n` (R407)? -/
def drivesData (n : Nat) : Bool :=
  match n with
  | 0x2 => true
  | 0x4 => true
  | 0x6 => true
  | 0x8 => true
  | 0xA => true
  | 0xC => true
  | _ => false

/-- The whole response to an access (R402): the byte driven, where one is driven, is the latch as it was
before the access. -/
def diskAccess (a : Word) (s : State) : State :=
  let n := a.toNat % 16
  let t := diskTransition n s
  if drivesData n then { t with bus := { t.bus with data := s.disk.dataLatch } } else t

/-- `GetLEDStatus(drive2)` (R415), a host-side output. -/
def ledStatus (queriedDrive2 : Bool) (s : State) : Bool := s.disk.motorOn && (queriedDrive2 == s.disk.drive2)

end Sys2Proof.Machine
end

