-- ==== Sys2Proof/Machine/Flags.lean ====
section
/-! DEFINITION. The status register P (spec/10_state.md R24 to R32) and every flag computation the
instruction rules give. -/

namespace Sys2Proof.Machine

/-- The flags of P (R24). -/
inductive Flag where
  | N
  | V
  | U
  | B
  | D
  | I
  | Z
  | C
deriving DecidableEq, Repr

/-- The bit of P that holds a flag (R24). -/
def Flag.bit : Flag → Nat
  | .N => 7
  | .V => 6
  | .U => 5
  | .B => 4
  | .D => 3
  | .I => 2
  | .Z => 1
  | .C => 0

/-- The mask of a flag in P (R24). -/
def Flag.mask : Flag → Byte
  | .N => 0x80
  | .V => 0x40
  | .U => 0x20
  | .B => 0x10
  | .D => 0x08
  | .I => 0x04
  | .Z => 0x02
  | .C => 0x01

/-- `P.f` (R9). -/
def getFlag (p : Byte) (f : Flag) : Bool := p.getLsbD f.bit

/-- `P.f <- b` (R9). -/
def setFlag (p : Byte) (f : Flag) (b : Bool) : Byte := if b then p ||| f.mask else p &&& ~~~f.mask

/-- `setNZ(v)`: N is bit 7 of v, Z is v == 0, the rest unchanged (R32). -/
def setNZ (v : Byte) (p : Byte) : Byte := setFlag (setFlag p .N (v.getLsbD 7)) .Z (v == 0)

/-- The carry as a number (R223, R224). -/
def carryIn (p : Byte) : Nat := if getFlag p .C then 1 else 0

/-- The result byte and the new P of ADC (R223). D is not read (R222). -/
def adcResult (a m p : Byte) : Byte × Byte :=
  let sum := a.toNat + m.toNat + carryIn p
  let r := BitVec.ofNat 8 sum
  let v := ((a ^^^ m) &&& 0x80 == 0) && ((a ^^^ r) &&& 0x80 != 0)
  (r, setNZ r (setFlag (setFlag p .C (decide (sum > 0xFF))) .V v))

/-- The result byte and the new P of SBC (R224). D is not read (R222). -/
def sbcResult (a m p : Byte) : Byte × Byte :=
  let d : Int := a.toNat - m.toNat - (1 - carryIn p : Int)
  let r := BitVec.ofInt 8 d
  let v := ((a ^^^ m) &&& 0x80 != 0) && ((a ^^^ r) &&& 0x80 != 0)
  (r, setNZ r (setFlag (setFlag p .C (decide (d ≥ 0))) .V v))

/-- The new P of a compare of register byte `r` with `m` (R228 to R230). -/
def compareFlags (r m p : Byte) : Byte := setFlag (setNZ (r - m) p) .C (decide (m.toNat ≤ r.toNat))

/-- The new P of BIT: N and V from M, Z from A and M (R231). -/
def bitFlags (a m p : Byte) : Byte :=
  setFlag (setFlag (setFlag p .N (m.getLsbD 7)) .V (m.getLsbD 6)) .Z (a &&& m == 0)

/-- The result byte and the new P of ASL (R251). -/
def aslResult (v p : Byte) : Byte × Byte :=
  let r := v <<< 1
  (r, setNZ r (setFlag p .C (v.getLsbD 7)))

/-- The result byte and the new P of LSR (R252). -/
def lsrResult (v p : Byte) : Byte × Byte :=
  let r := v >>> 1
  (r, setNZ r (setFlag p .C (v.getLsbD 0)))

/-- The result byte and the new P of ROL: a 9-bit rotate of (C, v) (R253). -/
def rolResult (v p : Byte) : Byte × Byte :=
  let r := (v <<< 1) ||| (if getFlag p .C then 0x01 else 0x00)
  (r, setNZ r (setFlag p .C (v.getLsbD 7)))

/-- The result byte and the new P of ROR: a 9-bit rotate of (v, C) (R254). -/
def rorResult (v p : Byte) : Byte × Byte :=
  let r := (v >>> 1) ||| (if getFlag p .C then 0x80 else 0x00)
  (r, setNZ r (setFlag p .C (v.getLsbD 0)))

/-- The result byte and the new P of INC (R232). -/
def incResult (v p : Byte) : Byte × Byte := (v + 1, setNZ (v + 1) p)

/-- The result byte and the new P of DEC (R233). -/
def decResult (v p : Byte) : Byte × Byte := (v - 1, setNZ (v - 1) p)

/-- P as PHP and BRK push it: B set (R284, R293). -/
def pushedStatus (p : Byte) : Byte := p ||| 0x10

/-- P as PLP and RTI take it from a pulled byte: B cleared, Unused set (R286, R295). -/
def pulledStatus (v : Byte) : Byte := (v &&& 0xEF) ||| 0x20

end Sys2Proof.Machine
end

