-- ==== Sys2Proof/Machine/MemoryMap.lean ====
section
/-! DEFINITION. Bank selection (spec/20_memory.md R87 to R101, R124): where the memory controller sends an
access, as a function of the address and the soft switches. -/

namespace Sys2Proof.Machine

/-- The two RAM banks (R37). -/
inductive Bank where
  | main
  | aux
deriving DecidableEq, Repr

/-- What an address selects: a RAM byte, a ROM byte, a soft switch, or nothing (R124). -/
inductive Place where
  | ram (bank : Bank) (off : Nat)
  | sysRom (off : Nat)
  | bootProm (off : Nat)
  | softSwitch
  | nothing
deriving DecidableEq, Repr

/-- The bank that MAINZP selects (R90, R96). -/
def zpBank (sw : Switches) : Bank := if sw.mainZp then .main else .aux

/-- Is `a` in a STORE80 window that follows PAGE2 (R92)? -/
def inVideoWindow (sw : Switches) (a : Nat) : Bool :=
  sw.store80 && ((decide (0x0400 ≤ a) && decide (a ≤ 0x07FF)) ||
    (sw.hires && decide (0x2000 ≤ a) && decide (a ≤ 0x3FFF)))

/-- The bank for $0200 to $BFFF, where `mainSelected` is RDMAIN for a read and WRMAIN for a write
(R91 to R93). -/
def bodyBank (sw : Switches) (mainSelected : Bool) (a : Nat) : Bank :=
  if inVideoWindow sw a then (if sw.page2 then .aux else .main)
  else if mainSelected then .main else .aux

/-- `lcoff(a)`: the offset of a $D000 to $DFFF address in its RAM array (R97). -/
def lcOffset (sw : Switches) (a : Nat) : Nat := if sw.lcBnk2 then a else a - 0x1000

/-- The read path's decode (R100). -/
def readPlace (sw : Switches) (a : Nat) : Place :=
  if a ≤ 0x01FF then .ram (zpBank sw) a
  else if a ≤ 0xBFFF then .ram (bodyBank sw sw.rdMain a) a
  else if a ≤ 0xC0FF then .softSwitch
  else if a ≤ 0xCFFF then
    if 0xC300 ≤ a ∧ a ≤ 0xC3FF then .sysRom (a - 0xC000)
    else if 0xC800 ≤ a then .sysRom (a - 0xC000)
    else if sw.intCxRom then .sysRom (a - 0xC000)
    else if 0xC600 ≤ a ∧ a ≤ 0xC6FF then .bootProm (a - 0xC600)
    else .nothing
  else if a ≤ 0xDFFF then
    if sw.lcRam then .ram (zpBank sw) (lcOffset sw a) else .sysRom (a - 0xC000)
  else if sw.lcRam then .ram (zpBank sw) a
  else .sysRom (a - 0xC000)

/-- The write path's decode (R101): a dropped write selects nothing. -/
def writePlace (sw : Switches) (a : Nat) : Place :=
  if a ≤ 0x01FF then .ram (zpBank sw) a
  else if a ≤ 0xBFFF then .ram (bodyBank sw sw.wrMain a) a
  else if a ≤ 0xC0FF then .softSwitch
  else if a ≤ 0xCFFF then .nothing
  else if a ≤ 0xDFFF then
    if sw.lcWrite then .ram (zpBank sw) (lcOffset sw a) else .nothing
  else if sw.lcWrite then .ram (zpBank sw) a
  else .nothing

/-- A byte of a RAM array. -/
def ramRead (s : State) : Bank → Nat → Byte
  | .main, off => s.main.read off
  | .aux, off => s.aux.read off

/-- A store into a RAM array. -/
def ramWrite (s : State) (bank : Bank) (off : Nat) (v : Byte) : State :=
  match bank with
  | .main => { s with main := s.main.write off v }
  | .aux => { s with aux := s.aux.write off v }

end Sys2Proof.Machine
end

