-- ==== Sys2Proof/Machine/SoftSwitch.lean ====
section
/-! DEFINITION. The soft switches at $C000 to $C0FF and the language-card state machine
(spec/20_memory.md R102 to R115). `n` is the address less $C000. -/

namespace Sys2Proof.Machine

/-- The switch a write to $C000 to $C00F sets (R105). -/
def setByWrite (n : Nat) (sw : Switches) : Switches :=
  match n with
  | 0x00 => { sw with store80 := false }
  | 0x01 => { sw with store80 := true }
  | 0x02 => { sw with rdMain := true }
  | 0x03 => { sw with rdMain := false }
  | 0x04 => { sw with wrMain := true }
  | 0x05 => { sw with wrMain := false }
  | 0x06 => { sw with intCxRom := false }
  | 0x07 => { sw with intCxRom := true }
  | 0x08 => { sw with mainZp := true }
  | 0x09 => { sw with mainZp := false }
  | 0x0A => { sw with slotC3Rom := false }
  | 0x0B => { sw with slotC3Rom := true }
  | 0x0C => { sw with vid80 := false }
  | 0x0D => { sw with vid80 := true }
  | 0x0E => { sw with altChar := false }
  | 0x0F => { sw with altChar := true }
  | _ => sw

/-- The switch any access to $C050 to $C057 sets (R108), and to $C05E, $C05F (R109). -/
def setByAccess (n : Nat) (sw : Switches) : Switches :=
  match n with
  | 0x50 => { sw with text := false }
  | 0x51 => { sw with text := true }
  | 0x52 => { sw with mixed := false }
  | 0x53 => { sw with mixed := true }
  | 0x54 => { sw with page2 := false }
  | 0x55 => { sw with page2 := true }
  | 0x56 => { sw with hires := false }
  | 0x57 => { sw with hires := true }
  | 0x5E => { sw with dblHires := true }
  | 0x5F => { sw with dblHires := false }
  | _ => sw

/-- The language card's response to an access at $C080 + x (R112 to R114). -/
def languageCard (rw : Rw) (x : Nat) (sw : Switches) : Switches :=
  let low := x % 4
  let preArm := decide (low = 1) || decide (low = 3)
  { sw with
    lcBnk2 := !(x.testBit 3)
    lcRam := decide (low = 0) || decide (low = 3)
    lcWrite :=
      if preArm then
        match rw with
        | .read => sw.preWrite
        | .write => sw.lcWrite
      else false
    preWrite :=
      if preArm then
        match rw with
        | .read => true
        | .write => false
      else false }

/-- The condition a read of $C011 to $C018, $C01A to $C01F or $C07F reports (R107, R110). $C019 is
`drawMirror`'s. -/
def statusFlag (sw : Switches) (n : Nat) : Bool :=
  match n with
  | 0x11 => sw.lcBnk2
  | 0x12 => sw.lcRam
  | 0x13 => !sw.rdMain
  | 0x14 => !sw.wrMain
  | 0x15 => sw.intCxRom
  | 0x16 => !sw.mainZp
  | 0x17 => sw.slotC3Rom
  | 0x18 => sw.store80
  | 0x1A => sw.text
  | 0x1B => sw.mixed
  | 0x1C => sw.page2
  | 0x1D => sw.hires
  | 0x1E => sw.altChar
  | 0x1F => sw.vid80
  | 0x7F => sw.dblHires
  | _ => false

/-- The mirror flag a read of $C019, $C061, $C062 or $C063 looks at (R107, R110). -/
def mirrorFlag (m : Mirrors) (n : Nat) : Bool :=
  match n with
  | 0x19 => m.vblank
  | 0x61 => m.openApple
  | 0x62 => m.filledApple
  | 0x63 => m.shift
  | _ => false

/-- A read of a mirror: the host's next draw where it has supplied one, else the flag (R42, log entry 5). -/
def drawMirror (level : Bool) (s : State) : Byte × State :=
  match s.host.draws with
  | [] => (flag80 level, s)
  | b :: rest => (flag80 b, { s with host := { s.host with draws := rest } })

/-- Clear the key-ready bit (R106). -/
def clearStrobe (s : State) : State := { s with kbd := s.kbd &&& 0x7F }

/-- A read access at $C000 + n: the byte returned and the state after (R102 to R114). -/
def softSwitchRead (n : Nat) (s : State) : Byte × State :=
  if n = 0x00 then (s.kbd, s)
  else if n = 0x10 then (0, clearStrobe s)
  else if n = 0x19 ∨ (0x61 ≤ n ∧ n ≤ 0x63) then drawMirror (mirrorFlag s.mirrors n) s
  else if (0x11 ≤ n ∧ n ≤ 0x1F) ∨ n = 0x7F then (flag80 (statusFlag s.sw n), s)
  else if 0x50 ≤ n ∧ n ≤ 0x5F then (0, { s with sw := setByAccess n s.sw })
  else if 0x80 ≤ n ∧ n ≤ 0x8F then (0, { s with sw := languageCard .read (n - 0x80) s.sw })
  else (0, s)

/-- A write access at $C000 + n; the data byte is ignored (R102, R105 to R114). -/
def softSwitchWrite (n : Nat) (s : State) : State :=
  if n ≤ 0x0F then { s with sw := setByWrite n s.sw }
  else if n = 0x10 then clearStrobe s
  else if 0x50 ≤ n ∧ n ≤ 0x5F then { s with sw := setByAccess n s.sw }
  else if 0x80 ≤ n ∧ n ≤ 0x8F then { s with sw := languageCard .write (n - 0x80) s.sw }
  else s

/-- The memory controller's read of the byte at `a` (R100). -/
def memCtlRead (a : Word) (s : State) : Byte × State :=
  match readPlace s.sw a.toNat with
  | .ram bank off => (ramRead s bank off, s)
  | .sysRom off => (romRead s.params.sysRom off, s)
  | .bootProm off => (romRead s.params.bootProm off, s)
  | .softSwitch => softSwitchRead (a.toNat - 0xC000) s
  | .nothing => (0, s)

/-- The memory controller's write of `v` at `a` (R101). -/
def memCtlWrite (a : Word) (v : Byte) (s : State) : State :=
  match writePlace s.sw a.toNat with
  | .ram bank off => ramWrite s bank off v
  | .sysRom _ => s
  | .bootProm _ => s
  | .softSwitch => softSwitchWrite (a.toNat - 0xC000) s
  | .nothing => s

end Sys2Proof.Machine
end

