-- ==== Sys2Proof/Machine/Ops.lean ====
section
/-! DEFINITION. The shared operations over the bus and the registers: one bus access (spec/20_memory.md R70
to R86), the stack (spec/10_state.md R27, R28), taking the one exception and returning from it
(spec/60_exceptions.md R501, R508). -/

namespace Sys2Proof.Machine

/-- The two bus devices (R71). -/
inductive Device where
  | memoryController
  | diskController
deriving DecidableEq, Repr

/-- A device with its inclusive address range (R36). -/
structure Attachment where
  device : Device
  first : Nat
  last : Nat
deriving DecidableEq, Repr

/-- `add(device, start, end)` prepends to the device list (R71). -/
def attach (d : Device) (first last : Nat) (list : List Attachment) : List Attachment := ⟨d, first, last⟩ :: list

/-- The attached devices in notification order: the disk controller was attached first and the memory
controller last (R71, R545). The list never changes. -/
def attached : List Attachment :=
  attach .memoryController 0x0000 0xFFFF (attach .diskController 0xC0E0 0xC0EF [])

/-- `bus_update`: what a notified device does with the access on the lines (R72, R76, R77). -/
def notify (s : State) (at_ : Attachment) : State :=
  match at_.device with
  | .memoryController =>
    match s.bus.rw with
    | .read =>
      let r := memCtlRead s.bus.addr s
      { r.2 with bus := { r.2.bus with data := r.1 } }
    | .write => memCtlWrite s.bus.addr s.bus.data s
  | .diskController => diskAccess s.bus.addr s

/-- `set(addr, data, rw)`: put the access on the lines, then notify every device whose range covers the
address, in list order (R72, R73). -/
def busSet (a : Word) (data : Byte) (rw : Rw) (s : State) : State :=
  (attached.filter fun t => decide (t.first ≤ a.toNat) && decide (a.toNat ≤ t.last)).foldl notify
    { s with bus := { s.bus with addr := a, data := data, rw := rw } }

/-- `MemRead(a, 1)` (R76): the byte on the data lines afterwards, and the state. A read supplies no data,
so the data lines keep their byte until a device drives them. -/
def memRead (a : Word) (s : State) : Byte × State :=
  let t := busSet a s.bus.data .read s
  (t.bus.data, t)

/-- `MemWrite(a, 1, v)` (R77). -/
def memWrite (a : Word) (v : Byte) (s : State) : State := busSet a v .write s

/-- The byte a read at `a` would return, with no access made. -/
def peek (s : State) (a : Word) : Byte := (memRead a s).1

/-- `MemRead(a, 2)`: low byte first, the second address carries and wraps (R82). -/
def memRead16 (a : Word) (s : State) : Word × State :=
  let lo := memRead a s
  let hi := memRead (a + 1) lo.2
  (wordOf hi.1 lo.1, hi.2)

/-- The next address within the same page (R83). -/
def nextInPage (a : Word) : Word := wordOf (hiByte a) (loByte a + 1)

/-- `MemReadNoWrap(a)`: the high byte comes from the same page (R83). -/
def memReadNoWrap (a : Word) (s : State) : Word × State :=
  let lo := memRead a s
  let hi := memRead (nextInPage a) lo.2
  (wordOf hi.1 lo.1, hi.2)

/-- The address of stack byte `sp` (R27). -/
def stackAddr (sp : Byte) : Word := wordOf 0x01 sp

/-- `push8(v)` (R27). -/
def push8 (v : Byte) (s : State) : State :=
  let t := memWrite (stackAddr s.cpu.sp) v s
  { t with cpu := { t.cpu with sp := s.cpu.sp - 1 } }

/-- `pull8()` (R27). -/
def pull8 (s : State) : Byte × State :=
  memRead (stackAddr (s.cpu.sp + 1)) { s with cpu := { s.cpu with sp := s.cpu.sp + 1 } }

/-- `push16(w)`: the high byte, then the low byte (R28). -/
def push16 (w : Word) (s : State) : State := push8 (loByte w) (push8 (hiByte w) s)

/-- `pull16()`: the low byte, then the high byte (R28). -/
def pull16 (s : State) : Word × State :=
  let lo := pull8 s
  let hi := pull8 lo.2
  (wordOf hi.1 lo.1, hi.2)

/-- The IRQ and BRK vector (R88, R505). -/
def brkVector : Word := 0xFFFE

/-- The Reset vector (R88, R505). -/
def resetVector : Word := 0xFFFC

/-- The NMI vector, reserved and never read (R88, R505). -/
def nmiVector : Word := 0xFFFA

/-- Taking the exception (R501 steps 4 to 8): push PC, push P with B set, set I, and go where the vector
points. `pc` is already the return address. -/
def takeException (vector : Word) (s : State) : State :=
  let t := push8 (pushedStatus s.cpu.p) (push16 s.cpu.pc s)
  let u := { t with cpu := { t.cpu with p := setFlag t.cpu.p .I true } }
  let r := memRead16 vector u
  { r.2 with cpu := { r.2.cpu with pc := r.1 } }

/-- Returning from it (R295, R508): pull P, then PC, with no adjustment. -/
def returnFromException (s : State) : State :=
  let p := pull8 s
  let t := { p.2 with cpu := { p.2.cpu with p := pulledStatus p.1 } }
  let r := pull16 t
  { r.2 with cpu := { r.2.cpu with pc := r.1 } }

end Sys2Proof.Machine
end

