-- ==== Sys2Proof/Machine/Operands.lean ====
section
/-! DEFINITION. The thirteen addressing modes (spec/30_encoding.md R144 to R148) and the shapes an
instruction can have: what a tick does around its operation (R141). -/

namespace Sys2Proof.Machine

/-- The operand bytes `Resolve` reads in a mode (R144). -/
def operandReads : Mode → Nat
  | .implied => 0
  | .accumulator => 0
  | .immediate => 0
  | .zeroPage => 1
  | .zeroPageX => 1
  | .zeroPageY => 1
  | .absolute => 2
  | .absoluteX => 2
  | .absoluteY => 2
  | .indirect => 2
  | .indexedIndirect => 1
  | .indirectIndexed => 1
  | .relative => 1

/-- The operand bytes of a mode's format (R142): an Immediate operand is one, which its handler reads (R147). -/
def operandBytes (m : Mode) : Nat := if m = .immediate then 1 else operandReads m

/-- What `Resolve` yields: `al`, `paged`, and the state after its pointer reads. -/
structure Resolved where
  al : Word
  paged : Bool
  state : State
deriving DecidableEq, Repr

/-- `al[15:8] != base[15:8]` (R145). -/
def pageDiffers (a b : Word) : Bool := hiByte a != hiByte b

/-- `Resolve(mode, pc0)` once the operand bytes have been fetched (R144): `operand` is the operand word, or
the operand byte zero-extended, and `s.cpu.pc` is pc0. -/
def resolve (m : Mode) (operand : Word) (s : State) : Resolved :=
  let b := loByte operand
  match m with
  | .implied => ⟨0, false, s⟩
  | .accumulator => ⟨0, false, s⟩
  | .immediate => ⟨s.cpu.pc + 1, false, s⟩
  | .zeroPage => ⟨zext16 b, false, s⟩
  | .zeroPageX => ⟨zext16 (b + s.cpu.x), false, s⟩
  | .zeroPageY => ⟨zext16 (b + s.cpu.y), false, s⟩
  | .absolute => ⟨operand, false, s⟩
  | .absoluteX =>
    let al := operand + zext16 s.cpu.x
    ⟨al, pageDiffers al operand, s⟩
  | .absoluteY =>
    let al := operand + zext16 s.cpu.y
    ⟨al, pageDiffers al operand, s⟩
  | .indirect =>
    let r := memReadNoWrap operand s
    ⟨r.1, false, r.2⟩
  | .indexedIndirect =>
    let r := memReadNoWrap (zext16 (b + s.cpu.x)) s
    ⟨r.1, false, r.2⟩
  | .indirectIndexed =>
    let r := memReadNoWrap (zext16 b) s
    let al := r.1 + zext16 s.cpu.y
    ⟨al, pageDiffers al r.1, r.2⟩
  | .relative => ⟨s.cpu.pc + 2 + sext16 b, false, s⟩

/-- Write the latch, advance PC by the size, count the base cycles and the page penalty (R141). -/
def advance (c : OpCost) (r : Resolved) : State :=
  { r.state with
    cpu :=
      { r.state.cpu with
        al := r.al
        pc := r.state.cpu.pc + BitVec.ofNat 16 c.size
        cycleCount := r.state.cpu.cycleCount + BitVec.ofNat 64 (c.cycles + if r.paged then c.pageCycles else 0) } }

/-- Everything a tick does between the fetch and the operation (R141). -/
def prepare (m : Mode) (c : OpCost) (operand : Word) (s : State) : State := advance c (resolve m operand s)

/-- Apply an operation on the CPU's registers alone. -/
def onCpu (f : Cpu → Cpu) (s : State) : State := { s with cpu := f s.cpu }

/-- An Implied or Accumulator instruction on the registers (R148). -/
def registerOp (m : Mode) (c : OpCost) (f : Cpu → Cpu) (s : State) : State := onCpu f (prepare m c 0 s)

/-- A read instruction in Immediate mode (R147): the operand byte has been read already, by the fetch. -/
def immediateOp (c : OpCost) (imm : Byte) (f : Byte → Cpu → Cpu) (s : State) : State :=
  onCpu (f imm) (prepare .immediate c 0 s)

/-- A read instruction in a memory mode: one read at `al` (R148). -/
def readOp (m : Mode) (c : OpCost) (operand : Word) (f : Byte → Cpu → Cpu) (s : State) : State :=
  let t := prepare m c operand s
  let r := memRead t.cpu.al t
  onCpu (f r.1) r.2

/-- A write instruction: one write at `al`, no read (R148). -/
def writeOp (m : Mode) (c : OpCost) (operand : Word) (f : Cpu → Byte) (s : State) : State :=
  let t := prepare m c operand s
  memWrite t.cpu.al (f t.cpu) t

/-- A read-modify-write instruction in a memory mode: one read, then one write at the same `al`, then the
flags (R148, R220, R250). `f` gives the result byte and the new P. -/
def modifyOp (m : Mode) (c : OpCost) (operand : Word) (f : Byte → Byte → Byte × Byte) (s : State) : State :=
  let t := prepare m c operand s
  let r := memRead t.cpu.al t
  let v := f r.1 r.2.cpu.p
  onCpu (fun cpu => { cpu with p := v.2 }) (memWrite t.cpu.al v.1 r.2)

/-- The same operations on A, in Accumulator mode (R147, R250). -/
def accumulatorOp (c : OpCost) (f : Byte → Byte → Byte × Byte) (s : State) : State :=
  registerOp .accumulator c (fun cpu => { cpu with a := (f cpu.a cpu.p).1, p := (f cpu.a cpu.p).2 }) s

/-- A jump: copy `al` to PC (R148, R261). -/
def jumpOp (m : Mode) (c : OpCost) (operand : Word) (s : State) : State :=
  onCpu (fun cpu => { cpu with pc := cpu.al }) (prepare m c operand s)

/-- The taken branch: PC to `al`, one cycle, and one more where the page of the target differs from that of
the next instruction (R264, R265). -/
def takeBranch (cpu : Cpu) : Cpu :=
  { cpu with
    pc := cpu.al
    cycleCount := cpu.cycleCount + BitVec.ofNat 64 (if pageDiffers cpu.al cpu.pc then 2 else 1) }

/-- A conditional branch (R264): taken iff `f` has the value `want`. -/
def branchOp (c : OpCost) (offset : Byte) (f : Flag) (want : Bool) (s : State) : State :=
  onCpu (fun cpu => if getFlag cpu.p f = want then takeBranch cpu else cpu) (prepare .relative c (zext16 offset) s)

/-- The ILLEGAL_TABLE entry of an undocumented opcode: the parameter's where it lists one, else the default
of R153 (R302). -/
def illegalEntry (p : Params) (opcode : Byte) (default : IllegalEntry) : IllegalEntry :=
  (p.illegalTable.lookup opcode).getD default

/-- The operand of an instruction in format `m` under the mode `wanted`: what the instruction carries where that
is enough, the reads at the operand bytes it does not carry being made now, low byte first (R143, R144,
log entry 2). -/
def completeOperand (m wanted : Mode) (operand : Word) (s : State) : Word × State :=
  match operandReads wanted - operandBytes m, operandBytes m with
  | 0, _ => (operand, s)
  | 1, 0 =>
    let b := memRead (s.cpu.pc + 1) s
    (zext16 b.1, b.2)
  | 1, _ =>
    let hi := memRead (s.cpu.pc + 2) s
    (wordOf hi.1 (loByte operand), hi.2)
  | _, _ => memRead16 (s.cpu.pc + 1) s

/-- An undocumented opcode, which the decoder reads in format `m` (R153): `Resolve` under its ILLEGAL_TABLE mode,
advance, count, and an empty handler (R300, R302). -/
def undocumentedOp (opcode : Byte) (m : Mode) (c : OpCost) (operand : Word) (s : State) : State :=
  let e := illegalEntry s.params opcode ⟨m, c⟩
  let o := completeOperand m e.mode operand s
  prepare e.mode e.cost o.1 o.2

end Sys2Proof.Machine
end

