-- ==== Sys2Proof/Machine/Arithmetic.lean ====
section
/-! DEFINITION. Arithmetic, logic, compare, bit test, increment and decrement (spec/41_arithmetic_logic.md R220 to R237).
The flag computations are in Flags.lean. -/

namespace Sys2Proof.Machine

/-- ADC on A (R223). -/
def Cpu.adc (m : Byte) (c : Cpu) : Cpu := { c with a := (adcResult c.a m c.p).1, p := (adcResult c.a m c.p).2 }

/-- SBC on A (R224). -/
def Cpu.sbc (m : Byte) (c : Cpu) : Cpu := { c with a := (sbcResult c.a m c.p).1, p := (sbcResult c.a m c.p).2 }

/-- AND with A (R225). -/
def Cpu.and (m : Byte) (c : Cpu) : Cpu := { c with a := c.a &&& m, p := setNZ (c.a &&& m) c.p }

/-- ORA with A (R226). -/
def Cpu.ora (m : Byte) (c : Cpu) : Cpu := { c with a := c.a ||| m, p := setNZ (c.a ||| m) c.p }

/-- EOR with A (R227). -/
def Cpu.eor (m : Byte) (c : Cpu) : Cpu := { c with a := c.a ^^^ m, p := setNZ (c.a ^^^ m) c.p }

/-- CMP (R228). -/
def Cpu.cmp (m : Byte) (c : Cpu) : Cpu := { c with p := compareFlags c.a m c.p }

/-- CPX (R229). -/
def Cpu.cpx (m : Byte) (c : Cpu) : Cpu := { c with p := compareFlags c.x m c.p }

/-- CPY (R230). -/
def Cpu.cpy (m : Byte) (c : Cpu) : Cpu := { c with p := compareFlags c.y m c.p }

/-- BIT (R231). -/
def Cpu.bit (m : Byte) (c : Cpu) : Cpu := { c with p := bitFlags c.a m c.p }

/-- `X <- v; setNZ(X)` (R234, R236). -/
def Cpu.setX (v : Byte) (c : Cpu) : Cpu := { c with x := v, p := setNZ v c.p }

/-- `Y <- v; setNZ(Y)` (R235, R237). -/
def Cpu.setY (v : Byte) (c : Cpu) : Cpu := { c with y := v, p := setNZ v c.p }

/-- ADC, Immediate ($69): R223. -/
def execAdcImm (imm : Byte) (s : State) : Result := .next (immediateOp ⟨2, 2, 0⟩ imm Cpu.adc s)

/-- ADC, ZeroPage ($65): R223. -/
def execAdcZp (addr : Byte) (s : State) : Result := .next (readOp .zeroPage ⟨2, 3, 0⟩ (zext16 addr) Cpu.adc s)

/-- ADC, ZeroPageX ($75): R223. -/
def execAdcZpx (addr : Byte) (s : State) : Result := .next (readOp .zeroPageX ⟨2, 4, 0⟩ (zext16 addr) Cpu.adc s)

/-- ADC, Absolute ($6D): R223. -/
def execAdcAbs (addr : Word) (s : State) : Result := .next (readOp .absolute ⟨3, 4, 0⟩ addr Cpu.adc s)

/-- ADC, AbsoluteX ($7D): R223. -/
def execAdcAbx (addr : Word) (s : State) : Result := .next (readOp .absoluteX ⟨3, 4, 1⟩ addr Cpu.adc s)

/-- ADC, AbsoluteY ($79): R223. -/
def execAdcAby (addr : Word) (s : State) : Result := .next (readOp .absoluteY ⟨3, 4, 1⟩ addr Cpu.adc s)

/-- ADC, IndexedIndirect ($61): R223. -/
def execAdcIzx (ptr : Byte) (s : State) : Result := .next (readOp .indexedIndirect ⟨2, 6, 0⟩ (zext16 ptr) Cpu.adc s)

/-- ADC, IndirectIndexed ($71): R223. -/
def execAdcIzy (ptr : Byte) (s : State) : Result := .next (readOp .indirectIndexed ⟨2, 5, 1⟩ (zext16 ptr) Cpu.adc s)

/-- SBC, Immediate ($E9): R224. -/
def execSbcImm (imm : Byte) (s : State) : Result := .next (immediateOp ⟨2, 2, 0⟩ imm Cpu.sbc s)

/-- SBC, ZeroPage ($E5): R224. -/
def execSbcZp (addr : Byte) (s : State) : Result := .next (readOp .zeroPage ⟨2, 3, 0⟩ (zext16 addr) Cpu.sbc s)

/-- SBC, ZeroPageX ($F5): R224. -/
def execSbcZpx (addr : Byte) (s : State) : Result := .next (readOp .zeroPageX ⟨2, 4, 0⟩ (zext16 addr) Cpu.sbc s)

/-- SBC, Absolute ($ED): R224. -/
def execSbcAbs (addr : Word) (s : State) : Result := .next (readOp .absolute ⟨3, 4, 0⟩ addr Cpu.sbc s)

/-- SBC, AbsoluteX ($FD): R224. -/
def execSbcAbx (addr : Word) (s : State) : Result := .next (readOp .absoluteX ⟨3, 4, 1⟩ addr Cpu.sbc s)

/-- SBC, AbsoluteY ($F9): R224. -/
def execSbcAby (addr : Word) (s : State) : Result := .next (readOp .absoluteY ⟨3, 4, 1⟩ addr Cpu.sbc s)

/-- SBC, IndexedIndirect ($E1): R224. -/
def execSbcIzx (ptr : Byte) (s : State) : Result := .next (readOp .indexedIndirect ⟨2, 6, 0⟩ (zext16 ptr) Cpu.sbc s)

/-- SBC, IndirectIndexed ($F1): R224. -/
def execSbcIzy (ptr : Byte) (s : State) : Result := .next (readOp .indirectIndexed ⟨2, 5, 1⟩ (zext16 ptr) Cpu.sbc s)

/-- AND, Immediate ($29): R225. -/
def execAndImm (imm : Byte) (s : State) : Result := .next (immediateOp ⟨2, 2, 0⟩ imm Cpu.and s)

/-- AND, ZeroPage ($25): R225. -/
def execAndZp (addr : Byte) (s : State) : Result := .next (readOp .zeroPage ⟨2, 3, 0⟩ (zext16 addr) Cpu.and s)

/-- AND, ZeroPageX ($35): R225. -/
def execAndZpx (addr : Byte) (s : State) : Result := .next (readOp .zeroPageX ⟨2, 4, 0⟩ (zext16 addr) Cpu.and s)

/-- AND, Absolute ($2D): R225. -/
def execAndAbs (addr : Word) (s : State) : Result := .next (readOp .absolute ⟨3, 4, 0⟩ addr Cpu.and s)

/-- AND, AbsoluteX ($3D): R225. -/
def execAndAbx (addr : Word) (s : State) : Result := .next (readOp .absoluteX ⟨3, 4, 1⟩ addr Cpu.and s)

/-- AND, AbsoluteY ($39): R225. -/
def execAndAby (addr : Word) (s : State) : Result := .next (readOp .absoluteY ⟨3, 4, 1⟩ addr Cpu.and s)

/-- AND, IndexedIndirect ($21): R225. -/
def execAndIzx (ptr : Byte) (s : State) : Result := .next (readOp .indexedIndirect ⟨2, 6, 0⟩ (zext16 ptr) Cpu.and s)

/-- AND, IndirectIndexed ($31): R225. -/
def execAndIzy (ptr : Byte) (s : State) : Result := .next (readOp .indirectIndexed ⟨2, 5, 1⟩ (zext16 ptr) Cpu.and s)

/-- ORA, Immediate ($09): R226. -/
def execOraImm (imm : Byte) (s : State) : Result := .next (immediateOp ⟨2, 2, 0⟩ imm Cpu.ora s)

/-- ORA, ZeroPage ($05): R226. -/
def execOraZp (addr : Byte) (s : State) : Result := .next (readOp .zeroPage ⟨2, 3, 0⟩ (zext16 addr) Cpu.ora s)

/-- ORA, ZeroPageX ($15): R226. -/
def execOraZpx (addr : Byte) (s : State) : Result := .next (readOp .zeroPageX ⟨2, 4, 0⟩ (zext16 addr) Cpu.ora s)

/-- ORA, Absolute ($0D): R226. -/
def execOraAbs (addr : Word) (s : State) : Result := .next (readOp .absolute ⟨3, 4, 0⟩ addr Cpu.ora s)

/-- ORA, AbsoluteX ($1D): R226. -/
def execOraAbx (addr : Word) (s : State) : Result := .next (readOp .absoluteX ⟨3, 4, 1⟩ addr Cpu.ora s)

/-- ORA, AbsoluteY ($19): R226. -/
def execOraAby (addr : Word) (s : State) : Result := .next (readOp .absoluteY ⟨3, 4, 1⟩ addr Cpu.ora s)

/-- ORA, IndexedIndirect ($01): R226. -/
def execOraIzx (ptr : Byte) (s : State) : Result := .next (readOp .indexedIndirect ⟨2, 6, 0⟩ (zext16 ptr) Cpu.ora s)

/-- ORA, IndirectIndexed ($11): R226. -/
def execOraIzy (ptr : Byte) (s : State) : Result := .next (readOp .indirectIndexed ⟨2, 5, 1⟩ (zext16 ptr) Cpu.ora s)

/-- EOR, Immediate ($49): R227. -/
def execEorImm (imm : Byte) (s : State) : Result := .next (immediateOp ⟨2, 2, 0⟩ imm Cpu.eor s)

/-- EOR, ZeroPage ($45): R227. -/
def execEorZp (addr : Byte) (s : State) : Result := .next (readOp .zeroPage ⟨2, 3, 0⟩ (zext16 addr) Cpu.eor s)

/-- EOR, ZeroPageX ($55): R227. -/
def execEorZpx (addr : Byte) (s : State) : Result := .next (readOp .zeroPageX ⟨2, 4, 0⟩ (zext16 addr) Cpu.eor s)

/-- EOR, Absolute ($4D): R227. -/
def execEorAbs (addr : Word) (s : State) : Result := .next (readOp .absolute ⟨3, 4, 0⟩ addr Cpu.eor s)

/-- EOR, AbsoluteX ($5D): R227. -/
def execEorAbx (addr : Word) (s : State) : Result := .next (readOp .absoluteX ⟨3, 4, 1⟩ addr Cpu.eor s)

/-- EOR, AbsoluteY ($59): R227. -/
def execEorAby (addr : Word) (s : State) : Result := .next (readOp .absoluteY ⟨3, 4, 1⟩ addr Cpu.eor s)

/-- EOR, IndexedIndirect ($41): R227. -/
def execEorIzx (ptr : Byte) (s : State) : Result := .next (readOp .indexedIndirect ⟨2, 6, 0⟩ (zext16 ptr) Cpu.eor s)

/-- EOR, IndirectIndexed ($51): R227. -/
def execEorIzy (ptr : Byte) (s : State) : Result := .next (readOp .indirectIndexed ⟨2, 5, 1⟩ (zext16 ptr) Cpu.eor s)

/-- CMP, Immediate ($C9): R228. -/
def execCmpImm (imm : Byte) (s : State) : Result := .next (immediateOp ⟨2, 2, 0⟩ imm Cpu.cmp s)

/-- CMP, ZeroPage ($C5): R228. -/
def execCmpZp (addr : Byte) (s : State) : Result := .next (readOp .zeroPage ⟨2, 3, 0⟩ (zext16 addr) Cpu.cmp s)

/-- CMP, ZeroPageX ($D5): R228. -/
def execCmpZpx (addr : Byte) (s : State) : Result := .next (readOp .zeroPageX ⟨2, 4, 0⟩ (zext16 addr) Cpu.cmp s)

/-- CMP, Absolute ($CD): R228. -/
def execCmpAbs (addr : Word) (s : State) : Result := .next (readOp .absolute ⟨3, 4, 0⟩ addr Cpu.cmp s)

/-- CMP, AbsoluteX ($DD): R228. -/
def execCmpAbx (addr : Word) (s : State) : Result := .next (readOp .absoluteX ⟨3, 4, 1⟩ addr Cpu.cmp s)

/-- CMP, AbsoluteY ($D9): R228. -/
def execCmpAby (addr : Word) (s : State) : Result := .next (readOp .absoluteY ⟨3, 4, 1⟩ addr Cpu.cmp s)

/-- CMP, IndexedIndirect ($C1): R228. -/
def execCmpIzx (ptr : Byte) (s : State) : Result := .next (readOp .indexedIndirect ⟨2, 6, 0⟩ (zext16 ptr) Cpu.cmp s)

/-- CMP, IndirectIndexed ($D1): R228. -/
def execCmpIzy (ptr : Byte) (s : State) : Result := .next (readOp .indirectIndexed ⟨2, 5, 1⟩ (zext16 ptr) Cpu.cmp s)

/-- CPX, Immediate ($E0): R229. -/
def execCpxImm (imm : Byte) (s : State) : Result := .next (immediateOp ⟨2, 2, 0⟩ imm Cpu.cpx s)

/-- CPX, ZeroPage ($E4): R229. -/
def execCpxZp (addr : Byte) (s : State) : Result := .next (readOp .zeroPage ⟨2, 3, 0⟩ (zext16 addr) Cpu.cpx s)

/-- CPX, Absolute ($EC): R229. -/
def execCpxAbs (addr : Word) (s : State) : Result := .next (readOp .absolute ⟨3, 4, 0⟩ addr Cpu.cpx s)

/-- CPY, Immediate ($C0): R230. -/
def execCpyImm (imm : Byte) (s : State) : Result := .next (immediateOp ⟨2, 2, 0⟩ imm Cpu.cpy s)

/-- CPY, ZeroPage ($C4): R230. -/
def execCpyZp (addr : Byte) (s : State) : Result := .next (readOp .zeroPage ⟨2, 3, 0⟩ (zext16 addr) Cpu.cpy s)

/-- CPY, Absolute ($CC): R230. -/
def execCpyAbs (addr : Word) (s : State) : Result := .next (readOp .absolute ⟨3, 4, 0⟩ addr Cpu.cpy s)

/-- BIT, ZeroPage ($24): R231. -/
def execBitZp (addr : Byte) (s : State) : Result := .next (readOp .zeroPage ⟨2, 3, 0⟩ (zext16 addr) Cpu.bit s)

/-- BIT, Absolute ($2C): R231. -/
def execBitAbs (addr : Word) (s : State) : Result := .next (readOp .absolute ⟨3, 4, 0⟩ addr Cpu.bit s)

/-- INC, ZeroPage ($E6): R232. -/
def execIncZp (addr : Byte) (s : State) : Result := .next (modifyOp .zeroPage ⟨2, 5, 0⟩ (zext16 addr) incResult s)

/-- INC, ZeroPageX ($F6): R232. -/
def execIncZpx (addr : Byte) (s : State) : Result := .next (modifyOp .zeroPageX ⟨2, 6, 0⟩ (zext16 addr) incResult s)

/-- INC, Absolute ($EE): R232. -/
def execIncAbs (addr : Word) (s : State) : Result := .next (modifyOp .absolute ⟨3, 6, 0⟩ addr incResult s)

/-- INC, AbsoluteX ($FE): R232. -/
def execIncAbx (addr : Word) (s : State) : Result := .next (modifyOp .absoluteX ⟨3, 7, 0⟩ addr incResult s)

/-- DEC, ZeroPage ($C6): R233. -/
def execDecZp (addr : Byte) (s : State) : Result := .next (modifyOp .zeroPage ⟨2, 5, 0⟩ (zext16 addr) decResult s)

/-- DEC, ZeroPageX ($D6): R233. -/
def execDecZpx (addr : Byte) (s : State) : Result := .next (modifyOp .zeroPageX ⟨2, 6, 0⟩ (zext16 addr) decResult s)

/-- DEC, Absolute ($CE): R233. -/
def execDecAbs (addr : Word) (s : State) : Result := .next (modifyOp .absolute ⟨3, 6, 0⟩ addr decResult s)

/-- DEC, AbsoluteX ($DE): R233. -/
def execDecAbx (addr : Word) (s : State) : Result := .next (modifyOp .absoluteX ⟨3, 7, 0⟩ addr decResult s)

/-- INX, Implied ($E8): R234. -/
def execInx (s : State) : Result := .next (registerOp .implied ⟨1, 2, 0⟩ (fun c => c.setX (c.x + 1)) s)

/-- INY, Implied ($C8): R235. -/
def execIny (s : State) : Result := .next (registerOp .implied ⟨1, 2, 0⟩ (fun c => c.setY (c.y + 1)) s)

/-- DEX, Implied ($CA): R236. -/
def execDex (s : State) : Result := .next (registerOp .implied ⟨1, 2, 0⟩ (fun c => c.setX (c.x - 1)) s)

/-- DEY, Implied ($88): R237. -/
def execDey (s : State) : Result := .next (registerOp .implied ⟨1, 2, 0⟩ (fun c => c.setY (c.y - 1)) s)

end Sys2Proof.Machine
end

