-- ==== Sys2Proof/Machine/Control.lean ====
section
/-! DEFINITION. Jumps, subroutine call and return, conditional branches (spec/43_control_flow.md R260 to R273). -/

namespace Sys2Proof.Machine

/-- JSR's operation (R262): push the address of its own last byte, then jump. -/
def callSubroutine (s : State) : State := onCpu (fun c => { c with pc := c.al }) (push16 (s.cpu.pc - 1) s)

/-- RTS's operation (R263): pull PC, plus 1. -/
def returnFromSubroutine (s : State) : State :=
  let r := pull16 s
  onCpu (fun c => { c with pc := r.1 + 1 }) r.2

/-- JMP, Absolute ($4C): R261. -/
def execJmpAbs (addr : Word) (s : State) : Result := .next (jumpOp .absolute ⟨3, 3, 0⟩ addr s)

/-- JMP, Indirect ($6C): R261. -/
def execJmpInd (ptr : Word) (s : State) : Result := .next (jumpOp .indirect ⟨3, 5, 0⟩ ptr s)

/-- JSR, Absolute ($20): R262. -/
def execJsr (addr : Word) (s : State) : Result := .next (callSubroutine (prepare .absolute ⟨3, 6, 0⟩ addr s))

/-- RTS, Implied ($60): R263. -/
def execRts (s : State) : Result := .next (returnFromSubroutine (prepare .implied ⟨1, 6, 0⟩ 0 s))

/-- BCC, Relative ($90): R266. -/
def execBcc (offset : Byte) (s : State) : Result := .next (branchOp ⟨2, 2, 0⟩ offset .C false s)

/-- BCS, Relative ($B0): R267. -/
def execBcs (offset : Byte) (s : State) : Result := .next (branchOp ⟨2, 2, 0⟩ offset .C true s)

/-- BEQ, Relative ($F0): R268. -/
def execBeq (offset : Byte) (s : State) : Result := .next (branchOp ⟨2, 2, 0⟩ offset .Z true s)

/-- BNE, Relative ($D0): R269. -/
def execBne (offset : Byte) (s : State) : Result := .next (branchOp ⟨2, 2, 0⟩ offset .Z false s)

/-- BMI, Relative ($30): R270. -/
def execBmi (offset : Byte) (s : State) : Result := .next (branchOp ⟨2, 2, 0⟩ offset .N true s)

/-- BPL, Relative ($10): R271. -/
def execBpl (offset : Byte) (s : State) : Result := .next (branchOp ⟨2, 2, 0⟩ offset .N false s)

/-- BVC, Relative ($50): R272. -/
def execBvc (offset : Byte) (s : State) : Result := .next (branchOp ⟨2, 2, 0⟩ offset .V false s)

/-- BVS, Relative ($70): R273. -/
def execBvs (offset : Byte) (s : State) : Result := .next (branchOp ⟨2, 2, 0⟩ offset .V true s)

end Sys2Proof.Machine
end

