-- ==== Sys2Proof/Machine/LoadStore.lean ====
section
/-! DEFINITION. LDA, LDX, LDY, STA, STX, STY and the register transfers (spec/40_load_store_transfer.md R199 to R211). -/

namespace Sys2Proof.Machine

/-- `A <- v; setNZ(A)` (R200, R208, R209). -/
def Cpu.loadA (v : Byte) (c : Cpu) : Cpu := { c with a := v, p := setNZ v c.p }

/-- `X <- v; setNZ(X)` (R201, R206, R210). -/
def Cpu.loadX (v : Byte) (c : Cpu) : Cpu := { c with x := v, p := setNZ v c.p }

/-- `Y <- v; setNZ(Y)` (R202, R207). -/
def Cpu.loadY (v : Byte) (c : Cpu) : Cpu := { c with y := v, p := setNZ v c.p }

/-- LDA, Immediate ($A9): R200. -/
def execLdaImm (imm : Byte) (s : State) : Result := .next (immediateOp ⟨2, 2, 0⟩ imm Cpu.loadA s)

/-- LDA, ZeroPage ($A5): R200. -/
def execLdaZp (addr : Byte) (s : State) : Result := .next (readOp .zeroPage ⟨2, 3, 0⟩ (zext16 addr) Cpu.loadA s)

/-- LDA, ZeroPageX ($B5): R200. -/
def execLdaZpx (addr : Byte) (s : State) : Result := .next (readOp .zeroPageX ⟨2, 4, 0⟩ (zext16 addr) Cpu.loadA s)

/-- LDA, Absolute ($AD): R200. -/
def execLdaAbs (addr : Word) (s : State) : Result := .next (readOp .absolute ⟨3, 4, 0⟩ addr Cpu.loadA s)

/-- LDA, AbsoluteX ($BD): R200. -/
def execLdaAbx (addr : Word) (s : State) : Result := .next (readOp .absoluteX ⟨3, 4, 1⟩ addr Cpu.loadA s)

/-- LDA, AbsoluteY ($B9): R200. -/
def execLdaAby (addr : Word) (s : State) : Result := .next (readOp .absoluteY ⟨3, 4, 1⟩ addr Cpu.loadA s)

/-- LDA, IndexedIndirect ($A1): R200. -/
def execLdaIzx (ptr : Byte) (s : State) : Result := .next (readOp .indexedIndirect ⟨2, 6, 0⟩ (zext16 ptr) Cpu.loadA s)

/-- LDA, IndirectIndexed ($B1): R200. -/
def execLdaIzy (ptr : Byte) (s : State) : Result := .next (readOp .indirectIndexed ⟨2, 5, 1⟩ (zext16 ptr) Cpu.loadA s)

/-- LDX, Immediate ($A2): R201. -/
def execLdxImm (imm : Byte) (s : State) : Result := .next (immediateOp ⟨2, 2, 0⟩ imm Cpu.loadX s)

/-- LDX, ZeroPage ($A6): R201. -/
def execLdxZp (addr : Byte) (s : State) : Result := .next (readOp .zeroPage ⟨2, 3, 0⟩ (zext16 addr) Cpu.loadX s)

/-- LDX, ZeroPageY ($B6): R201. -/
def execLdxZpy (addr : Byte) (s : State) : Result := .next (readOp .zeroPageY ⟨2, 4, 0⟩ (zext16 addr) Cpu.loadX s)

/-- LDX, Absolute ($AE): R201. -/
def execLdxAbs (addr : Word) (s : State) : Result := .next (readOp .absolute ⟨3, 4, 0⟩ addr Cpu.loadX s)

/-- LDX, AbsoluteY ($BE): R201. -/
def execLdxAby (addr : Word) (s : State) : Result := .next (readOp .absoluteY ⟨3, 4, 1⟩ addr Cpu.loadX s)

/-- LDY, Immediate ($A0): R202. -/
def execLdyImm (imm : Byte) (s : State) : Result := .next (immediateOp ⟨2, 2, 0⟩ imm Cpu.loadY s)

/-- LDY, ZeroPage ($A4): R202. -/
def execLdyZp (addr : Byte) (s : State) : Result := .next (readOp .zeroPage ⟨2, 3, 0⟩ (zext16 addr) Cpu.loadY s)

/-- LDY, ZeroPageX ($B4): R202. -/
def execLdyZpx (addr : Byte) (s : State) : Result := .next (readOp .zeroPageX ⟨2, 4, 0⟩ (zext16 addr) Cpu.loadY s)

/-- LDY, Absolute ($AC): R202. -/
def execLdyAbs (addr : Word) (s : State) : Result := .next (readOp .absolute ⟨3, 4, 0⟩ addr Cpu.loadY s)

/-- LDY, AbsoluteX ($BC): R202. -/
def execLdyAbx (addr : Word) (s : State) : Result := .next (readOp .absoluteX ⟨3, 4, 1⟩ addr Cpu.loadY s)

/-- STA, ZeroPage ($85): R203. -/
def execStaZp (addr : Byte) (s : State) : Result := .next (writeOp .zeroPage ⟨2, 3, 0⟩ (zext16 addr) Cpu.a s)

/-- STA, ZeroPageX ($95): R203. -/
def execStaZpx (addr : Byte) (s : State) : Result := .next (writeOp .zeroPageX ⟨2, 4, 0⟩ (zext16 addr) Cpu.a s)

/-- STA, Absolute ($8D): R203. -/
def execStaAbs (addr : Word) (s : State) : Result := .next (writeOp .absolute ⟨3, 4, 0⟩ addr Cpu.a s)

/-- STA, AbsoluteX ($9D): R203. -/
def execStaAbx (addr : Word) (s : State) : Result := .next (writeOp .absoluteX ⟨3, 5, 0⟩ addr Cpu.a s)

/-- STA, AbsoluteY ($99): R203. -/
def execStaAby (addr : Word) (s : State) : Result := .next (writeOp .absoluteY ⟨3, 5, 0⟩ addr Cpu.a s)

/-- STA, IndexedIndirect ($81): R203. -/
def execStaIzx (ptr : Byte) (s : State) : Result := .next (writeOp .indexedIndirect ⟨2, 6, 0⟩ (zext16 ptr) Cpu.a s)

/-- STA, IndirectIndexed ($91): R203. -/
def execStaIzy (ptr : Byte) (s : State) : Result := .next (writeOp .indirectIndexed ⟨2, 6, 0⟩ (zext16 ptr) Cpu.a s)

/-- STX, ZeroPage ($86): R204. -/
def execStxZp (addr : Byte) (s : State) : Result := .next (writeOp .zeroPage ⟨2, 3, 0⟩ (zext16 addr) Cpu.x s)

/-- STX, ZeroPageY ($96): R204. -/
def execStxZpy (addr : Byte) (s : State) : Result := .next (writeOp .zeroPageY ⟨2, 4, 0⟩ (zext16 addr) Cpu.x s)

/-- STX, Absolute ($8E): R204. -/
def execStxAbs (addr : Word) (s : State) : Result := .next (writeOp .absolute ⟨3, 4, 0⟩ addr Cpu.x s)

/-- STY, ZeroPage ($84): R205. -/
def execStyZp (addr : Byte) (s : State) : Result := .next (writeOp .zeroPage ⟨2, 3, 0⟩ (zext16 addr) Cpu.y s)

/-- STY, ZeroPageX ($94): R205. -/
def execStyZpx (addr : Byte) (s : State) : Result := .next (writeOp .zeroPageX ⟨2, 4, 0⟩ (zext16 addr) Cpu.y s)

/-- STY, Absolute ($8C): R205. -/
def execStyAbs (addr : Word) (s : State) : Result := .next (writeOp .absolute ⟨3, 4, 0⟩ addr Cpu.y s)

/-- TAX, Implied ($AA): R206. -/
def execTax (s : State) : Result := .next (registerOp .implied ⟨1, 2, 0⟩ (fun c => c.loadX c.a) s)

/-- TAY, Implied ($A8): R207. -/
def execTay (s : State) : Result := .next (registerOp .implied ⟨1, 2, 0⟩ (fun c => c.loadY c.a) s)

/-- TXA, Implied ($8A): R208. -/
def execTxa (s : State) : Result := .next (registerOp .implied ⟨1, 2, 0⟩ (fun c => c.loadA c.x) s)

/-- TYA, Implied ($98): R209. -/
def execTya (s : State) : Result := .next (registerOp .implied ⟨1, 2, 0⟩ (fun c => c.loadA c.y) s)

/-- TSX, Implied ($BA): R210. -/
def execTsx (s : State) : Result := .next (registerOp .implied ⟨1, 2, 0⟩ (fun c => c.loadX c.sp) s)

/-- TXS, Implied ($9A): R211. -/
def execTxs (s : State) : Result := .next (registerOp .implied ⟨1, 2, 0⟩ (fun c => { c with sp := c.x }) s)

end Sys2Proof.Machine
end

