-- ==== Sys2Proof/Machine/Shift.lean ====
section
/-! DEFINITION. Shift and rotate (spec/42_shift_rotate.md R250 to R254). The computations are in Flags.lean. -/

namespace Sys2Proof.Machine

/-- ASL, Accumulator ($0A): R251. -/
def execAslAcc (s : State) : Result := .next (accumulatorOp ⟨1, 2, 0⟩ aslResult s)

/-- ASL, ZeroPage ($06): R251. -/
def execAslZp (addr : Byte) (s : State) : Result := .next (modifyOp .zeroPage ⟨2, 5, 0⟩ (zext16 addr) aslResult s)

/-- ASL, ZeroPageX ($16): R251. -/
def execAslZpx (addr : Byte) (s : State) : Result := .next (modifyOp .zeroPageX ⟨2, 6, 0⟩ (zext16 addr) aslResult s)

/-- ASL, Absolute ($0E): R251. -/
def execAslAbs (addr : Word) (s : State) : Result := .next (modifyOp .absolute ⟨3, 6, 0⟩ addr aslResult s)

/-- ASL, AbsoluteX ($1E): R251. -/
def execAslAbx (addr : Word) (s : State) : Result := .next (modifyOp .absoluteX ⟨3, 7, 0⟩ addr aslResult s)

/-- LSR, Accumulator ($4A): R252. -/
def execLsrAcc (s : State) : Result := .next (accumulatorOp ⟨1, 2, 0⟩ lsrResult s)

/-- LSR, ZeroPage ($46): R252. -/
def execLsrZp (addr : Byte) (s : State) : Result := .next (modifyOp .zeroPage ⟨2, 5, 0⟩ (zext16 addr) lsrResult s)

/-- LSR, ZeroPageX ($56): R252. -/
def execLsrZpx (addr : Byte) (s : State) : Result := .next (modifyOp .zeroPageX ⟨2, 6, 0⟩ (zext16 addr) lsrResult s)

/-- LSR, Absolute ($4E): R252. -/
def execLsrAbs (addr : Word) (s : State) : Result := .next (modifyOp .absolute ⟨3, 6, 0⟩ addr lsrResult s)

/-- LSR, AbsoluteX ($5E): R252. -/
def execLsrAbx (addr : Word) (s : State) : Result := .next (modifyOp .absoluteX ⟨3, 7, 0⟩ addr lsrResult s)

/-- ROL, Accumulator ($2A): R253. -/
def execRolAcc (s : State) : Result := .next (accumulatorOp ⟨1, 2, 0⟩ rolResult s)

/-- ROL, ZeroPage ($26): R253. -/
def execRolZp (addr : Byte) (s : State) : Result := .next (modifyOp .zeroPage ⟨2, 5, 0⟩ (zext16 addr) rolResult s)

/-- ROL, ZeroPageX ($36): R253. -/
def execRolZpx (addr : Byte) (s : State) : Result := .next (modifyOp .zeroPageX ⟨2, 6, 0⟩ (zext16 addr) rolResult s)

/-- ROL, Absolute ($2E): R253. -/
def execRolAbs (addr : Word) (s : State) : Result := .next (modifyOp .absolute ⟨3, 6, 0⟩ addr rolResult s)

/-- ROL, AbsoluteX ($3E): R253. -/
def execRolAbx (addr : Word) (s : State) : Result := .next (modifyOp .absoluteX ⟨3, 7, 0⟩ addr rolResult s)

/-- ROR, Accumulator ($6A): R254. -/
def execRorAcc (s : State) : Result := .next (accumulatorOp ⟨1, 2, 0⟩ rorResult s)

/-- ROR, ZeroPage ($66): R254. -/
def execRorZp (addr : Byte) (s : State) : Result := .next (modifyOp .zeroPage ⟨2, 5, 0⟩ (zext16 addr) rorResult s)

/-- ROR, ZeroPageX ($76): R254. -/
def execRorZpx (addr : Byte) (s : State) : Result := .next (modifyOp .zeroPageX ⟨2, 6, 0⟩ (zext16 addr) rorResult s)

/-- ROR, Absolute ($6E): R254. -/
def execRorAbs (addr : Word) (s : State) : Result := .next (modifyOp .absolute ⟨3, 6, 0⟩ addr rorResult s)

/-- ROR, AbsoluteX ($7E): R254. -/
def execRorAbx (addr : Word) (s : State) : Result := .next (modifyOp .absoluteX ⟨3, 7, 0⟩ addr rorResult s)

end Sys2Proof.Machine
end

