-- ==== Sys2Proof/Machine/StackFlags.lean ====
section
/-! DEFINITION. Stack, flag and system instructions (spec/44_stack_flags_system.md R280 to R297). -/

namespace Sys2Proof.Machine

/-- PLA's operation (R283). -/
def pullA (s : State) : State :=
  let r := pull8 s
  onCpu (fun c => { c with a := r.1, p := setNZ r.1 c.p }) r.2

/-- PLP's operation (R286). -/
def pullP (s : State) : State :=
  let r := pull8 s
  onCpu (fun c => { c with p := pulledStatus r.1 }) r.2

/-- `P.f <- b` (R287 to R292, R297). -/
def Cpu.putFlag (f : Flag) (b : Bool) (c : Cpu) : Cpu := { c with p := setFlag c.p f b }

/-- PHA, Implied ($48): R282. -/
def execPha (s : State) : Result := .next (push8 s.cpu.a (prepare .implied ⟨1, 3, 0⟩ 0 s))

/-- PLA, Implied ($68): R283. -/
def execPla (s : State) : Result := .next (pullA (prepare .implied ⟨1, 4, 0⟩ 0 s))

/-- PHP, Implied ($08): R284. -/
def execPhp (s : State) : Result := .next (push8 (pushedStatus s.cpu.p) (prepare .implied ⟨1, 3, 0⟩ 0 s))

/-- PLP, Implied ($28): R286. -/
def execPlp (s : State) : Result := .next (pullP (prepare .implied ⟨1, 4, 0⟩ 0 s))

/-- CLC, Implied ($18): R287. -/
def execClc (s : State) : Result := .next (registerOp .implied ⟨1, 2, 0⟩ (Cpu.putFlag .C false) s)

/-- SEC, Implied ($38): R288. -/
def execSec (s : State) : Result := .next (registerOp .implied ⟨1, 2, 0⟩ (Cpu.putFlag .C true) s)

/-- CLI, Implied ($58): R289. -/
def execCli (s : State) : Result := .next (registerOp .implied ⟨1, 2, 0⟩ (Cpu.putFlag .I false) s)

/-- SEI, Implied ($78): R290. -/
def execSei (s : State) : Result := .next (registerOp .implied ⟨1, 2, 0⟩ (Cpu.putFlag .I true) s)

/-- CLD, Implied ($D8): R291. -/
def execCld (s : State) : Result := .next (registerOp .implied ⟨1, 2, 0⟩ (Cpu.putFlag .D false) s)

/-- SED, Implied ($F8): R297. -/
def execSed (s : State) : Result := .next (registerOp .implied ⟨1, 2, 0⟩ (Cpu.putFlag .D true) s)

/-- CLV, Implied ($B8): R292. -/
def execClv (s : State) : Result := .next (registerOp .implied ⟨1, 2, 0⟩ (Cpu.putFlag .V false) s)

/-- BRK, Implied ($00): R293, or R294 where `BRK_MODE = halt`. The signature byte is not read. -/
def execBrk (_signature : Byte) (s : State) : Result :=
  match s.params.brkMode with
  | .vector => .next (takeException brkVector (prepare .implied ⟨2, 7, 0⟩ 0 s))
  | .halt => .fault .brkHalt

/-- RTI, Implied ($40): R295. -/
def execRti (s : State) : Result := .next (returnFromException (prepare .implied ⟨1, 6, 0⟩ 0 s))

/-- NOP, Implied ($EA): R296. -/
def execNop (s : State) : Result := .next (prepare .implied ⟨1, 2, 0⟩ 0 s)

end Sys2Proof.Machine
end

