-- ==== Sys2Proof/Machine/Undocumented.lean ====
section
/-! DEFINITION. The 105 undocumented opcodes (spec/45_illegal_opcodes.md R300 to R305): each is a no-operation
under its ILLEGAL_TABLE entry (R302). The mode, size and cycle numbers given here are the default entry, those of
spec/30_encoding.md R153; the mode given is also the format in which the decoder reads the operand. -/

namespace Sys2Proof.Machine

/-- *slo, IndexedIndirect ($03): R300. -/
def execSlo03 (ptr : Byte) (s : State) : Result := .next (undocumentedOp 0x03 .indexedIndirect ⟨2, 8, 0⟩ (zext16 ptr) s)

/-- *nop, ZeroPage ($04): R300. -/
def execNop04 (addr : Byte) (s : State) : Result := .next (undocumentedOp 0x04 .zeroPage ⟨2, 3, 0⟩ (zext16 addr) s)

/-- *slo, ZeroPage ($07): R300. -/
def execSlo07 (addr : Byte) (s : State) : Result := .next (undocumentedOp 0x07 .zeroPage ⟨2, 5, 0⟩ (zext16 addr) s)

/-- *anc, Immediate ($0B): R300. With the default mode the operand byte is not read. -/
def execAnc0B (imm : Byte) (s : State) : Result := .next (undocumentedOp 0x0B .immediate ⟨2, 2, 0⟩ (zext16 imm) s)

/-- *nop, Absolute ($0C): R300. -/
def execNop0C (addr : Word) (s : State) : Result := .next (undocumentedOp 0x0C .absolute ⟨3, 4, 0⟩ addr s)

/-- *slo, Absolute ($0F): R300. -/
def execSlo0F (addr : Word) (s : State) : Result := .next (undocumentedOp 0x0F .absolute ⟨3, 6, 0⟩ addr s)

/-- *slo, IndirectIndexed ($13): R300. -/
def execSlo13 (ptr : Byte) (s : State) : Result := .next (undocumentedOp 0x13 .indirectIndexed ⟨2, 8, 0⟩ (zext16 ptr) s)

/-- *nop, ZeroPageX ($14): R300. -/
def execNop14 (addr : Byte) (s : State) : Result := .next (undocumentedOp 0x14 .zeroPageX ⟨2, 4, 0⟩ (zext16 addr) s)

/-- *slo, ZeroPageX ($17): R300. -/
def execSlo17 (addr : Byte) (s : State) : Result := .next (undocumentedOp 0x17 .zeroPageX ⟨2, 6, 0⟩ (zext16 addr) s)

/-- *slo, AbsoluteY ($1B): R300. -/
def execSlo1B (addr : Word) (s : State) : Result := .next (undocumentedOp 0x1B .absoluteY ⟨3, 7, 0⟩ addr s)

/-- *nop, AbsoluteX ($1C): R300. -/
def execNop1C (addr : Word) (s : State) : Result := .next (undocumentedOp 0x1C .absoluteX ⟨3, 4, 1⟩ addr s)

/-- *slo, AbsoluteX ($1F): R300. -/
def execSlo1F (addr : Word) (s : State) : Result := .next (undocumentedOp 0x1F .absoluteX ⟨3, 7, 0⟩ addr s)

/-- *rla, IndexedIndirect ($23): R300. -/
def execRla23 (ptr : Byte) (s : State) : Result := .next (undocumentedOp 0x23 .indexedIndirect ⟨2, 8, 0⟩ (zext16 ptr) s)

/-- *rla, ZeroPage ($27): R300. -/
def execRla27 (addr : Byte) (s : State) : Result := .next (undocumentedOp 0x27 .zeroPage ⟨2, 5, 0⟩ (zext16 addr) s)

/-- *anc, Immediate ($2B): R300. With the default mode the operand byte is not read. -/
def execAnc2B (imm : Byte) (s : State) : Result := .next (undocumentedOp 0x2B .immediate ⟨2, 2, 0⟩ (zext16 imm) s)

/-- *rla, Absolute ($2F): R300. -/
def execRla2F (addr : Word) (s : State) : Result := .next (undocumentedOp 0x2F .absolute ⟨3, 6, 0⟩ addr s)

/-- *rla, IndirectIndexed ($33): R300. -/
def execRla33 (ptr : Byte) (s : State) : Result := .next (undocumentedOp 0x33 .indirectIndexed ⟨2, 8, 0⟩ (zext16 ptr) s)

/-- *nop, ZeroPageX ($34): R300. -/
def execNop34 (addr : Byte) (s : State) : Result := .next (undocumentedOp 0x34 .zeroPageX ⟨2, 4, 0⟩ (zext16 addr) s)

/-- *rla, ZeroPageX ($37): R300. -/
def execRla37 (addr : Byte) (s : State) : Result := .next (undocumentedOp 0x37 .zeroPageX ⟨2, 6, 0⟩ (zext16 addr) s)

/-- *rla, AbsoluteY ($3B): R300. -/
def execRla3B (addr : Word) (s : State) : Result := .next (undocumentedOp 0x3B .absoluteY ⟨3, 7, 0⟩ addr s)

/-- *nop, AbsoluteX ($3C): R300. -/
def execNop3C (addr : Word) (s : State) : Result := .next (undocumentedOp 0x3C .absoluteX ⟨3, 4, 1⟩ addr s)

/-- *rla, AbsoluteX ($3F): R300. -/
def execRla3F (addr : Word) (s : State) : Result := .next (undocumentedOp 0x3F .absoluteX ⟨3, 7, 0⟩ addr s)

/-- *sre, IndexedIndirect ($43): R300. -/
def execSre43 (ptr : Byte) (s : State) : Result := .next (undocumentedOp 0x43 .indexedIndirect ⟨2, 8, 0⟩ (zext16 ptr) s)

/-- *nop, ZeroPage ($44): R300. -/
def execNop44 (addr : Byte) (s : State) : Result := .next (undocumentedOp 0x44 .zeroPage ⟨2, 3, 0⟩ (zext16 addr) s)

/-- *sre, ZeroPage ($47): R300. -/
def execSre47 (addr : Byte) (s : State) : Result := .next (undocumentedOp 0x47 .zeroPage ⟨2, 5, 0⟩ (zext16 addr) s)

/-- *alr, Immediate ($4B): R300. With the default mode the operand byte is not read. -/
def execAlr4B (imm : Byte) (s : State) : Result := .next (undocumentedOp 0x4B .immediate ⟨2, 2, 0⟩ (zext16 imm) s)

/-- *sre, Absolute ($4F): R300. -/
def execSre4F (addr : Word) (s : State) : Result := .next (undocumentedOp 0x4F .absolute ⟨3, 6, 0⟩ addr s)

/-- *sre, IndirectIndexed ($53): R300. -/
def execSre53 (ptr : Byte) (s : State) : Result := .next (undocumentedOp 0x53 .indirectIndexed ⟨2, 8, 0⟩ (zext16 ptr) s)

/-- *nop, ZeroPageX ($54): R300. -/
def execNop54 (addr : Byte) (s : State) : Result := .next (undocumentedOp 0x54 .zeroPageX ⟨2, 4, 0⟩ (zext16 addr) s)

/-- *sre, ZeroPageX ($57): R300. -/
def execSre57 (addr : Byte) (s : State) : Result := .next (undocumentedOp 0x57 .zeroPageX ⟨2, 6, 0⟩ (zext16 addr) s)

/-- *sre, AbsoluteY ($5B): R300. -/
def execSre5B (addr : Word) (s : State) : Result := .next (undocumentedOp 0x5B .absoluteY ⟨3, 7, 0⟩ addr s)

/-- *nop, AbsoluteX ($5C): R300. -/
def execNop5C (addr : Word) (s : State) : Result := .next (undocumentedOp 0x5C .absoluteX ⟨3, 4, 1⟩ addr s)

/-- *sre, AbsoluteX ($5F): R300. -/
def execSre5F (addr : Word) (s : State) : Result := .next (undocumentedOp 0x5F .absoluteX ⟨3, 7, 0⟩ addr s)

/-- *rra, IndexedIndirect ($63): R300. -/
def execRra63 (ptr : Byte) (s : State) : Result := .next (undocumentedOp 0x63 .indexedIndirect ⟨2, 8, 0⟩ (zext16 ptr) s)

/-- *nop, ZeroPage ($64): R300. -/
def execNop64 (addr : Byte) (s : State) : Result := .next (undocumentedOp 0x64 .zeroPage ⟨2, 3, 0⟩ (zext16 addr) s)

/-- *rra, ZeroPage ($67): R300. -/
def execRra67 (addr : Byte) (s : State) : Result := .next (undocumentedOp 0x67 .zeroPage ⟨2, 5, 0⟩ (zext16 addr) s)

/-- *arr, Immediate ($6B): R300. With the default mode the operand byte is not read. -/
def execArr6B (imm : Byte) (s : State) : Result := .next (undocumentedOp 0x6B .immediate ⟨2, 2, 0⟩ (zext16 imm) s)

/-- *rra, Absolute ($6F): R300. -/
def execRra6F (addr : Word) (s : State) : Result := .next (undocumentedOp 0x6F .absolute ⟨3, 6, 0⟩ addr s)

/-- *rra, IndirectIndexed ($73): R300. -/
def execRra73 (ptr : Byte) (s : State) : Result := .next (undocumentedOp 0x73 .indirectIndexed ⟨2, 8, 0⟩ (zext16 ptr) s)

/-- *nop, ZeroPageX ($74): R300. -/
def execNop74 (addr : Byte) (s : State) : Result := .next (undocumentedOp 0x74 .zeroPageX ⟨2, 4, 0⟩ (zext16 addr) s)

/-- *rra, ZeroPageX ($77): R300. -/
def execRra77 (addr : Byte) (s : State) : Result := .next (undocumentedOp 0x77 .zeroPageX ⟨2, 6, 0⟩ (zext16 addr) s)

/-- *rra, AbsoluteY ($7B): R300. -/
def execRra7B (addr : Word) (s : State) : Result := .next (undocumentedOp 0x7B .absoluteY ⟨3, 7, 0⟩ addr s)

/-- *nop, AbsoluteX ($7C): R300. -/
def execNop7C (addr : Word) (s : State) : Result := .next (undocumentedOp 0x7C .absoluteX ⟨3, 4, 1⟩ addr s)

/-- *rra, AbsoluteX ($7F): R300. -/
def execRra7F (addr : Word) (s : State) : Result := .next (undocumentedOp 0x7F .absoluteX ⟨3, 7, 0⟩ addr s)

/-- *nop, Immediate ($80): R300. With the default mode the operand byte is not read. -/
def execNop80 (imm : Byte) (s : State) : Result := .next (undocumentedOp 0x80 .immediate ⟨2, 2, 0⟩ (zext16 imm) s)

/-- *nop, Immediate ($82): R300. With the default mode the operand byte is not read. -/
def execNop82 (imm : Byte) (s : State) : Result := .next (undocumentedOp 0x82 .immediate ⟨2, 2, 0⟩ (zext16 imm) s)

/-- *sax, IndexedIndirect ($83): R300. -/
def execSax83 (ptr : Byte) (s : State) : Result := .next (undocumentedOp 0x83 .indexedIndirect ⟨2, 6, 0⟩ (zext16 ptr) s)

/-- *sax, ZeroPage ($87): R300. -/
def execSax87 (addr : Byte) (s : State) : Result := .next (undocumentedOp 0x87 .zeroPage ⟨2, 3, 0⟩ (zext16 addr) s)

/-- *nop, Immediate ($89): R300. With the default mode the operand byte is not read. -/
def execNop89 (imm : Byte) (s : State) : Result := .next (undocumentedOp 0x89 .immediate ⟨2, 2, 0⟩ (zext16 imm) s)

/-- *xaa, Immediate ($8B): R300. With the default mode the operand byte is not read. -/
def execXaa8B (imm : Byte) (s : State) : Result := .next (undocumentedOp 0x8B .immediate ⟨2, 2, 0⟩ (zext16 imm) s)

/-- *sax, Absolute ($8F): R300. -/
def execSax8F (addr : Word) (s : State) : Result := .next (undocumentedOp 0x8F .absolute ⟨3, 4, 0⟩ addr s)

/-- *ahx, IndirectIndexed ($93): R300. -/
def execAhx93 (ptr : Byte) (s : State) : Result := .next (undocumentedOp 0x93 .indirectIndexed ⟨2, 6, 0⟩ (zext16 ptr) s)

/-- *sax, ZeroPageY ($97): R300. -/
def execSax97 (addr : Byte) (s : State) : Result := .next (undocumentedOp 0x97 .zeroPageY ⟨2, 4, 0⟩ (zext16 addr) s)

/-- *tas, AbsoluteY ($9B): R300. -/
def execTas9B (addr : Word) (s : State) : Result := .next (undocumentedOp 0x9B .absoluteY ⟨3, 5, 0⟩ addr s)

/-- *shy, AbsoluteX ($9C): R300. -/
def execShy9C (addr : Word) (s : State) : Result := .next (undocumentedOp 0x9C .absoluteX ⟨3, 5, 0⟩ addr s)

/-- *shx, AbsoluteY ($9E): R300. -/
def execShx9E (addr : Word) (s : State) : Result := .next (undocumentedOp 0x9E .absoluteY ⟨3, 5, 0⟩ addr s)

/-- *ahx, AbsoluteY ($9F): R300. -/
def execAhx9F (addr : Word) (s : State) : Result := .next (undocumentedOp 0x9F .absoluteY ⟨3, 5, 0⟩ addr s)

/-- *lax, IndexedIndirect ($A3): R300. -/
def execLaxA3 (ptr : Byte) (s : State) : Result := .next (undocumentedOp 0xA3 .indexedIndirect ⟨2, 6, 0⟩ (zext16 ptr) s)

/-- *lax, ZeroPage ($A7): R300. -/
def execLaxA7 (addr : Byte) (s : State) : Result := .next (undocumentedOp 0xA7 .zeroPage ⟨2, 3, 0⟩ (zext16 addr) s)

/-- *lax, Immediate ($AB): R300. With the default mode the operand byte is not read. -/
def execLaxAB (imm : Byte) (s : State) : Result := .next (undocumentedOp 0xAB .immediate ⟨2, 2, 0⟩ (zext16 imm) s)

/-- *lax, Absolute ($AF): R300. -/
def execLaxAF (addr : Word) (s : State) : Result := .next (undocumentedOp 0xAF .absolute ⟨3, 4, 0⟩ addr s)

/-- *lax, IndirectIndexed ($B3): R300. -/
def execLaxB3 (ptr : Byte) (s : State) : Result := .next (undocumentedOp 0xB3 .indirectIndexed ⟨2, 5, 1⟩ (zext16 ptr) s)

/-- *lax, ZeroPageY ($B7): R300. -/
def execLaxB7 (addr : Byte) (s : State) : Result := .next (undocumentedOp 0xB7 .zeroPageY ⟨2, 4, 0⟩ (zext16 addr) s)

/-- *las, AbsoluteY ($BB): R300. -/
def execLasBB (addr : Word) (s : State) : Result := .next (undocumentedOp 0xBB .absoluteY ⟨3, 4, 1⟩ addr s)

/-- *lax, AbsoluteY ($BF): R300. -/
def execLaxBF (addr : Word) (s : State) : Result := .next (undocumentedOp 0xBF .absoluteY ⟨3, 4, 1⟩ addr s)

/-- *nop, Immediate ($C2): R300. With the default mode the operand byte is not read. -/
def execNopC2 (imm : Byte) (s : State) : Result := .next (undocumentedOp 0xC2 .immediate ⟨2, 2, 0⟩ (zext16 imm) s)

/-- *dcp, IndexedIndirect ($C3): R300. -/
def execDcpC3 (ptr : Byte) (s : State) : Result := .next (undocumentedOp 0xC3 .indexedIndirect ⟨2, 8, 0⟩ (zext16 ptr) s)

/-- *dcp, ZeroPage ($C7): R300. -/
def execDcpC7 (addr : Byte) (s : State) : Result := .next (undocumentedOp 0xC7 .zeroPage ⟨2, 5, 0⟩ (zext16 addr) s)

/-- *axs, Immediate ($CB): R300. With the default mode the operand byte is not read. -/
def execAxsCB (imm : Byte) (s : State) : Result := .next (undocumentedOp 0xCB .immediate ⟨2, 2, 0⟩ (zext16 imm) s)

/-- *dcp, Absolute ($CF): R300. -/
def execDcpCF (addr : Word) (s : State) : Result := .next (undocumentedOp 0xCF .absolute ⟨3, 6, 0⟩ addr s)

/-- *dcp, IndirectIndexed ($D3): R300. -/
def execDcpD3 (ptr : Byte) (s : State) : Result := .next (undocumentedOp 0xD3 .indirectIndexed ⟨2, 8, 0⟩ (zext16 ptr) s)

/-- *nop, ZeroPageX ($D4): R300. -/
def execNopD4 (addr : Byte) (s : State) : Result := .next (undocumentedOp 0xD4 .zeroPageX ⟨2, 4, 0⟩ (zext16 addr) s)

/-- *dcp, ZeroPageX ($D7): R300. -/
def execDcpD7 (addr : Byte) (s : State) : Result := .next (undocumentedOp 0xD7 .zeroPageX ⟨2, 6, 0⟩ (zext16 addr) s)

/-- *dcp, AbsoluteY ($DB): R300. -/
def execDcpDB (addr : Word) (s : State) : Result := .next (undocumentedOp 0xDB .absoluteY ⟨3, 7, 0⟩ addr s)

/-- *nop, AbsoluteX ($DC): R300. -/
def execNopDC (addr : Word) (s : State) : Result := .next (undocumentedOp 0xDC .absoluteX ⟨3, 4, 1⟩ addr s)

/-- *dcp, AbsoluteX ($DF): R300. -/
def execDcpDF (addr : Word) (s : State) : Result := .next (undocumentedOp 0xDF .absoluteX ⟨3, 7, 0⟩ addr s)

/-- *nop, Immediate ($E2): R300. With the default mode the operand byte is not read. -/
def execNopE2 (imm : Byte) (s : State) : Result := .next (undocumentedOp 0xE2 .immediate ⟨2, 2, 0⟩ (zext16 imm) s)

/-- *isc, IndexedIndirect ($E3): R300. -/
def execIscE3 (ptr : Byte) (s : State) : Result := .next (undocumentedOp 0xE3 .indexedIndirect ⟨2, 8, 0⟩ (zext16 ptr) s)

/-- *isc, ZeroPage ($E7): R300. -/
def execIscE7 (addr : Byte) (s : State) : Result := .next (undocumentedOp 0xE7 .zeroPage ⟨2, 5, 0⟩ (zext16 addr) s)

/-- *sbc, Immediate ($EB): R300. With the default mode the operand byte is not read. -/
def execSbcEB (imm : Byte) (s : State) : Result := .next (undocumentedOp 0xEB .immediate ⟨2, 2, 0⟩ (zext16 imm) s)

/-- *isc, Absolute ($EF): R300. -/
def execIscEF (addr : Word) (s : State) : Result := .next (undocumentedOp 0xEF .absolute ⟨3, 6, 0⟩ addr s)

/-- *isc, IndirectIndexed ($F3): R300. -/
def execIscF3 (ptr : Byte) (s : State) : Result := .next (undocumentedOp 0xF3 .indirectIndexed ⟨2, 8, 0⟩ (zext16 ptr) s)

/-- *nop, ZeroPageX ($F4): R300. -/
def execNopF4 (addr : Byte) (s : State) : Result := .next (undocumentedOp 0xF4 .zeroPageX ⟨2, 4, 0⟩ (zext16 addr) s)

/-- *isc, ZeroPageX ($F7): R300. -/
def execIscF7 (addr : Byte) (s : State) : Result := .next (undocumentedOp 0xF7 .zeroPageX ⟨2, 6, 0⟩ (zext16 addr) s)

/-- *isc, AbsoluteY ($FB): R300. -/
def execIscFB (addr : Word) (s : State) : Result := .next (undocumentedOp 0xFB .absoluteY ⟨3, 7, 0⟩ addr s)

/-- *nop, AbsoluteX ($FC): R300. -/
def execNopFC (addr : Word) (s : State) : Result := .next (undocumentedOp 0xFC .absoluteX ⟨3, 4, 1⟩ addr s)

/-- *isc, AbsoluteX ($FF): R300. -/
def execIscFF (addr : Word) (s : State) : Result := .next (undocumentedOp 0xFF .absoluteX ⟨3, 7, 0⟩ addr s)

/-- *kil, Implied ($02): R300. -/
def execKil02 (s : State) : Result := .next (undocumentedOp 0x02 .implied ⟨1, 2, 0⟩ 0 s)

/-- *kil, Implied ($12): R300. -/
def execKil12 (s : State) : Result := .next (undocumentedOp 0x12 .implied ⟨1, 2, 0⟩ 0 s)

/-- *nop, Implied ($1A): R300. -/
def execNop1A (s : State) : Result := .next (undocumentedOp 0x1A .implied ⟨1, 2, 0⟩ 0 s)

/-- *kil, Implied ($22): R300. -/
def execKil22 (s : State) : Result := .next (undocumentedOp 0x22 .implied ⟨1, 2, 0⟩ 0 s)

/-- *kil, Implied ($32): R300. -/
def execKil32 (s : State) : Result := .next (undocumentedOp 0x32 .implied ⟨1, 2, 0⟩ 0 s)

/-- *nop, Implied ($3A): R300. -/
def execNop3A (s : State) : Result := .next (undocumentedOp 0x3A .implied ⟨1, 2, 0⟩ 0 s)

/-- *kil, Implied ($42): R300. -/
def execKil42 (s : State) : Result := .next (undocumentedOp 0x42 .implied ⟨1, 2, 0⟩ 0 s)

/-- *kil, Implied ($52): R300. -/
def execKil52 (s : State) : Result := .next (undocumentedOp 0x52 .implied ⟨1, 2, 0⟩ 0 s)

/-- *nop, Implied ($5A): R300. -/
def execNop5A (s : State) : Result := .next (undocumentedOp 0x5A .implied ⟨1, 2, 0⟩ 0 s)

/-- *kil, Implied ($62): R300. -/
def execKil62 (s : State) : Result := .next (undocumentedOp 0x62 .implied ⟨1, 2, 0⟩ 0 s)

/-- *kil, Implied ($72): R300. -/
def execKil72 (s : State) : Result := .next (undocumentedOp 0x72 .implied ⟨1, 2, 0⟩ 0 s)

/-- *nop, Implied ($7A): R300. -/
def execNop7A (s : State) : Result := .next (undocumentedOp 0x7A .implied ⟨1, 2, 0⟩ 0 s)

/-- *kil, Implied ($92): R300. -/
def execKil92 (s : State) : Result := .next (undocumentedOp 0x92 .implied ⟨1, 2, 0⟩ 0 s)

/-- *kil, Implied ($B2): R300. -/
def execKilB2 (s : State) : Result := .next (undocumentedOp 0xB2 .implied ⟨1, 2, 0⟩ 0 s)

/-- *kil, Implied ($D2): R300. -/
def execKilD2 (s : State) : Result := .next (undocumentedOp 0xD2 .implied ⟨1, 2, 0⟩ 0 s)

/-- *nop, Implied ($DA): R300. -/
def execNopDA (s : State) : Result := .next (undocumentedOp 0xDA .implied ⟨1, 2, 0⟩ 0 s)

/-- *kil, Implied ($F2): R300. -/
def execKilF2 (s : State) : Result := .next (undocumentedOp 0xF2 .implied ⟨1, 2, 0⟩ 0 s)

/-- *nop, Implied ($FA): R300. -/
def execNopFA (s : State) : Result := .next (undocumentedOp 0xFA .implied ⟨1, 2, 0⟩ 0 s)

end Sys2Proof.Machine
end

