-- ==== Sys2Proof/Syntax.lean ====
section
/-! DEFINITION. The instructions: one constructor per row of spec/opcode_table.json (spec/30_encoding.md R150,
R153). A documented constructor is its mnemonic and the short mode name of R144, without the mode where
the mnemonic has one row only; an undocumented one is its conventional name and its opcode byte. An
argument is the row's operand as the instruction's bytes hold it: `imm` an immediate value, `addr` an
address, `ptr` the address of a pointer, `offset` a signed branch offset, `signature` BRK's skipped byte. -/

namespace Sys2Proof

/-- An instruction of the machine (R140, R150, R153). -/
inductive Instr where
  -- Load, store and register transfer (spec/40_load_store_transfer.md)
  | ldaImm (imm : Byte)
  | ldaZp (addr : Byte)
  | ldaZpx (addr : Byte)
  | ldaAbs (addr : Word)
  | ldaAbx (addr : Word)
  | ldaAby (addr : Word)
  | ldaIzx (ptr : Byte)
  | ldaIzy (ptr : Byte)
  | ldxImm (imm : Byte)
  | ldxZp (addr : Byte)
  | ldxZpy (addr : Byte)
  | ldxAbs (addr : Word)
  | ldxAby (addr : Word)
  | ldyImm (imm : Byte)
  | ldyZp (addr : Byte)
  | ldyZpx (addr : Byte)
  | ldyAbs (addr : Word)
  | ldyAbx (addr : Word)
  | staZp (addr : Byte)
  | staZpx (addr : Byte)
  | staAbs (addr : Word)
  | staAbx (addr : Word)
  | staAby (addr : Word)
  | staIzx (ptr : Byte)
  | staIzy (ptr : Byte)
  | stxZp (addr : Byte)
  | stxZpy (addr : Byte)
  | stxAbs (addr : Word)
  | styZp (addr : Byte)
  | styZpx (addr : Byte)
  | styAbs (addr : Word)
  | tax
  | tay
  | txa
  | tya
  | tsx
  | txs
  -- Arithmetic, logic, compare, increment, decrement (spec/41_arithmetic_logic.md)
  | adcImm (imm : Byte)
  | adcZp (addr : Byte)
  | adcZpx (addr : Byte)
  | adcAbs (addr : Word)
  | adcAbx (addr : Word)
  | adcAby (addr : Word)
  | adcIzx (ptr : Byte)
  | adcIzy (ptr : Byte)
  | sbcImm (imm : Byte)
  | sbcZp (addr : Byte)
  | sbcZpx (addr : Byte)
  | sbcAbs (addr : Word)
  | sbcAbx (addr : Word)
  | sbcAby (addr : Word)
  | sbcIzx (ptr : Byte)
  | sbcIzy (ptr : Byte)
  | andImm (imm : Byte)
  | andZp (addr : Byte)
  | andZpx (addr : Byte)
  | andAbs (addr : Word)
  | andAbx (addr : Word)
  | andAby (addr : Word)
  | andIzx (ptr : Byte)
  | andIzy (ptr : Byte)
  | oraImm (imm : Byte)
  | oraZp (addr : Byte)
  | oraZpx (addr : Byte)
  | oraAbs (addr : Word)
  | oraAbx (addr : Word)
  | oraAby (addr : Word)
  | oraIzx (ptr : Byte)
  | oraIzy (ptr : Byte)
  | eorImm (imm : Byte)
  | eorZp (addr : Byte)
  | eorZpx (addr : Byte)
  | eorAbs (addr : Word)
  | eorAbx (addr : Word)
  | eorAby (addr : Word)
  | eorIzx (ptr : Byte)
  | eorIzy (ptr : Byte)
  | cmpImm (imm : Byte)
  | cmpZp (addr : Byte)
  | cmpZpx (addr : Byte)
  | cmpAbs (addr : Word)
  | cmpAbx (addr : Word)
  | cmpAby (addr : Word)
  | cmpIzx (ptr : Byte)
  | cmpIzy (ptr : Byte)
  | cpxImm (imm : Byte)
  | cpxZp (addr : Byte)
  | cpxAbs (addr : Word)
  | cpyImm (imm : Byte)
  | cpyZp (addr : Byte)
  | cpyAbs (addr : Word)
  | bitZp (addr : Byte)
  | bitAbs (addr : Word)
  | incZp (addr : Byte)
  | incZpx (addr : Byte)
  | incAbs (addr : Word)
  | incAbx (addr : Word)
  | decZp (addr : Byte)
  | decZpx (addr : Byte)
  | decAbs (addr : Word)
  | decAbx (addr : Word)
  | inx
  | iny
  | dex
  | dey
  -- Shift and rotate (spec/42_shift_rotate.md)
  | aslAcc
  | aslZp (addr : Byte)
  | aslZpx (addr : Byte)
  | aslAbs (addr : Word)
  | aslAbx (addr : Word)
  | lsrAcc
  | lsrZp (addr : Byte)
  | lsrZpx (addr : Byte)
  | lsrAbs (addr : Word)
  | lsrAbx (addr : Word)
  | rolAcc
  | rolZp (addr : Byte)
  | rolZpx (addr : Byte)
  | rolAbs (addr : Word)
  | rolAbx (addr : Word)
  | rorAcc
  | rorZp (addr : Byte)
  | rorZpx (addr : Byte)
  | rorAbs (addr : Word)
  | rorAbx (addr : Word)
  -- Jumps, calls, branches (spec/43_control_flow.md)
  | jmpAbs (addr : Word)
  | jmpInd (ptr : Word)
  | jsr (addr : Word)
  | rts
  | bcc (offset : Byte)
  | bcs (offset : Byte)
  | beq (offset : Byte)
  | bne (offset : Byte)
  | bmi (offset : Byte)
  | bpl (offset : Byte)
  | bvc (offset : Byte)
  | bvs (offset : Byte)
  -- Stack, flags, system (spec/44_stack_flags_system.md)
  | pha
  | pla
  | php
  | plp
  | clc
  | sec
  | cli
  | sei
  | cld
  | sed
  | clv
  | brk (signature : Byte)
  | rti
  | nop
  -- The undocumented opcodes, all no-operations (spec/45_illegal_opcodes.md)
  | slo03 (ptr : Byte)
  | nop04 (addr : Byte)
  | slo07 (addr : Byte)
  | anc0B (imm : Byte)
  | nop0C (addr : Word)
  | slo0F (addr : Word)
  | slo13 (ptr : Byte)
  | nop14 (addr : Byte)
  | slo17 (addr : Byte)
  | slo1B (addr : Word)
  | nop1C (addr : Word)
  | slo1F (addr : Word)
  | rla23 (ptr : Byte)
  | rla27 (addr : Byte)
  | anc2B (imm : Byte)
  | rla2F (addr : Word)
  | rla33 (ptr : Byte)
  | nop34 (addr : Byte)
  | rla37 (addr : Byte)
  | rla3B (addr : Word)
  | nop3C (addr : Word)
  | rla3F (addr : Word)
  | sre43 (ptr : Byte)
  | nop44 (addr : Byte)
  | sre47 (addr : Byte)
  | alr4B (imm : Byte)
  | sre4F (addr : Word)
  | sre53 (ptr : Byte)
  | nop54 (addr : Byte)
  | sre57 (addr : Byte)
  | sre5B (addr : Word)
  | nop5C (addr : Word)
  | sre5F (addr : Word)
  | rra63 (ptr : Byte)
  | nop64 (addr : Byte)
  | rra67 (addr : Byte)
  | arr6B (imm : Byte)
  | rra6F (addr : Word)
  | rra73 (ptr : Byte)
  | nop74 (addr : Byte)
  | rra77 (addr : Byte)
  | rra7B (addr : Word)
  | nop7C (addr : Word)
  | rra7F (addr : Word)
  | nop80 (imm : Byte)
  | nop82 (imm : Byte)
  | sax83 (ptr : Byte)
  | sax87 (addr : Byte)
  | nop89 (imm : Byte)
  | xaa8B (imm : Byte)
  | sax8F (addr : Word)
  | ahx93 (ptr : Byte)
  | sax97 (addr : Byte)
  | tas9B (addr : Word)
  | shy9C (addr : Word)
  | shx9E (addr : Word)
  | ahx9F (addr : Word)
  | laxA3 (ptr : Byte)
  | laxA7 (addr : Byte)
  | laxAB (imm : Byte)
  | laxAF (addr : Word)
  | laxB3 (ptr : Byte)
  | laxB7 (addr : Byte)
  | lasBB (addr : Word)
  | laxBF (addr : Word)
  | nopC2 (imm : Byte)
  | dcpC3 (ptr : Byte)
  | dcpC7 (addr : Byte)
  | axsCB (imm : Byte)
  | dcpCF (addr : Word)
  | dcpD3 (ptr : Byte)
  | nopD4 (addr : Byte)
  | dcpD7 (addr : Byte)
  | dcpDB (addr : Word)
  | nopDC (addr : Word)
  | dcpDF (addr : Word)
  | nopE2 (imm : Byte)
  | iscE3 (ptr : Byte)
  | iscE7 (addr : Byte)
  | sbcEB (imm : Byte)
  | iscEF (addr : Word)
  | iscF3 (ptr : Byte)
  | nopF4 (addr : Byte)
  | iscF7 (addr : Byte)
  | iscFB (addr : Word)
  | nopFC (addr : Word)
  | iscFF (addr : Word)
  | kil02
  | kil12
  | nop1A
  | kil22
  | kil32
  | nop3A
  | kil42
  | kil52
  | nop5A
  | kil62
  | kil72
  | nop7A
  | kil92
  | kilB2
  | kilD2
  | nopDA
  | kilF2
  | nopFA
deriving DecidableEq, Repr

end Sys2Proof
end

