-- ==== Sys2Proof/Machine/Dispatch.lean ====
section
/-! DEFINITION. One arm per instruction: a direct call of its meaning. -/

namespace Sys2Proof.Machine

/-- What an instruction does, from the state in which its bytes have been fetched and PC is still the address
of its opcode (spec/30_encoding.md R141). -/
def exec (i : Instr) (s : State) : Host.Outcome State Fault Refusal :=
  match i with
  -- Load, store and register transfer (spec/40_load_store_transfer.md)
  | .ldaImm imm => Sys2Proof.Machine.execLdaImm imm s
  | .ldaZp addr => Sys2Proof.Machine.execLdaZp addr s
  | .ldaZpx addr => Sys2Proof.Machine.execLdaZpx addr s
  | .ldaAbs addr => Sys2Proof.Machine.execLdaAbs addr s
  | .ldaAbx addr => Sys2Proof.Machine.execLdaAbx addr s
  | .ldaAby addr => Sys2Proof.Machine.execLdaAby addr s
  | .ldaIzx ptr => Sys2Proof.Machine.execLdaIzx ptr s
  | .ldaIzy ptr => Sys2Proof.Machine.execLdaIzy ptr s
  | .ldxImm imm => Sys2Proof.Machine.execLdxImm imm s
  | .ldxZp addr => Sys2Proof.Machine.execLdxZp addr s
  | .ldxZpy addr => Sys2Proof.Machine.execLdxZpy addr s
  | .ldxAbs addr => Sys2Proof.Machine.execLdxAbs addr s
  | .ldxAby addr => Sys2Proof.Machine.execLdxAby addr s
  | .ldyImm imm => Sys2Proof.Machine.execLdyImm imm s
  | .ldyZp addr => Sys2Proof.Machine.execLdyZp addr s
  | .ldyZpx addr => Sys2Proof.Machine.execLdyZpx addr s
  | .ldyAbs addr => Sys2Proof.Machine.execLdyAbs addr s
  | .ldyAbx addr => Sys2Proof.Machine.execLdyAbx addr s
  | .staZp addr => Sys2Proof.Machine.execStaZp addr s
  | .staZpx addr => Sys2Proof.Machine.execStaZpx addr s
  | .staAbs addr => Sys2Proof.Machine.execStaAbs addr s
  | .staAbx addr => Sys2Proof.Machine.execStaAbx addr s
  | .staAby addr => Sys2Proof.Machine.execStaAby addr s
  | .staIzx ptr => Sys2Proof.Machine.execStaIzx ptr s
  | .staIzy ptr => Sys2Proof.Machine.execStaIzy ptr s
  | .stxZp addr => Sys2Proof.Machine.execStxZp addr s
  | .stxZpy addr => Sys2Proof.Machine.execStxZpy addr s
  | .stxAbs addr => Sys2Proof.Machine.execStxAbs addr s
  | .styZp addr => Sys2Proof.Machine.execStyZp addr s
  | .styZpx addr => Sys2Proof.Machine.execStyZpx addr s
  | .styAbs addr => Sys2Proof.Machine.execStyAbs addr s
  | .tax => Sys2Proof.Machine.execTax s
  | .tay => Sys2Proof.Machine.execTay s
  | .txa => Sys2Proof.Machine.execTxa s
  | .tya => Sys2Proof.Machine.execTya s
  | .tsx => Sys2Proof.Machine.execTsx s
  | .txs => Sys2Proof.Machine.execTxs s
  -- Arithmetic, logic, compare, increment, decrement (spec/41_arithmetic_logic.md)
  | .adcImm imm => Sys2Proof.Machine.execAdcImm imm s
  | .adcZp addr => Sys2Proof.Machine.execAdcZp addr s
  | .adcZpx addr => Sys2Proof.Machine.execAdcZpx addr s
  | .adcAbs addr => Sys2Proof.Machine.execAdcAbs addr s
  | .adcAbx addr => Sys2Proof.Machine.execAdcAbx addr s
  | .adcAby addr => Sys2Proof.Machine.execAdcAby addr s
  | .adcIzx ptr => Sys2Proof.Machine.execAdcIzx ptr s
  | .adcIzy ptr => Sys2Proof.Machine.execAdcIzy ptr s
  | .sbcImm imm => Sys2Proof.Machine.execSbcImm imm s
  | .sbcZp addr => Sys2Proof.Machine.execSbcZp addr s
  | .sbcZpx addr => Sys2Proof.Machine.execSbcZpx addr s
  | .sbcAbs addr => Sys2Proof.Machine.execSbcAbs addr s
  | .sbcAbx addr => Sys2Proof.Machine.execSbcAbx addr s
  | .sbcAby addr => Sys2Proof.Machine.execSbcAby addr s
  | .sbcIzx ptr => Sys2Proof.Machine.execSbcIzx ptr s
  | .sbcIzy ptr => Sys2Proof.Machine.execSbcIzy ptr s
  | .andImm imm => Sys2Proof.Machine.execAndImm imm s
  | .andZp addr => Sys2Proof.Machine.execAndZp addr s
  | .andZpx addr => Sys2Proof.Machine.execAndZpx addr s
  | .andAbs addr => Sys2Proof.Machine.execAndAbs addr s
  | .andAbx addr => Sys2Proof.Machine.execAndAbx addr s
  | .andAby addr => Sys2Proof.Machine.execAndAby addr s
  | .andIzx ptr => Sys2Proof.Machine.execAndIzx ptr s
  | .andIzy ptr => Sys2Proof.Machine.execAndIzy ptr s
  | .oraImm imm => Sys2Proof.Machine.execOraImm imm s
  | .oraZp addr => Sys2Proof.Machine.execOraZp addr s
  | .oraZpx addr => Sys2Proof.Machine.execOraZpx addr s
  | .oraAbs addr => Sys2Proof.Machine.execOraAbs addr s
  | .oraAbx addr => Sys2Proof.Machine.execOraAbx addr s
  | .oraAby addr => Sys2Proof.Machine.execOraAby addr s
  | .oraIzx ptr => Sys2Proof.Machine.execOraIzx ptr s
  | .oraIzy ptr => Sys2Proof.Machine.execOraIzy ptr s
  | .eorImm imm => Sys2Proof.Machine.execEorImm imm s
  | .eorZp addr => Sys2Proof.Machine.execEorZp addr s
  | .eorZpx addr => Sys2Proof.Machine.execEorZpx addr s
  | .eorAbs addr => Sys2Proof.Machine.execEorAbs addr s
  | .eorAbx addr => Sys2Proof.Machine.execEorAbx addr s
  | .eorAby addr => Sys2Proof.Machine.execEorAby addr s
  | .eorIzx ptr => Sys2Proof.Machine.execEorIzx ptr s
  | .eorIzy ptr => Sys2Proof.Machine.execEorIzy ptr s
  | .cmpImm imm => Sys2Proof.Machine.execCmpImm imm s
  | .cmpZp addr => Sys2Proof.Machine.execCmpZp addr s
  | .cmpZpx addr => Sys2Proof.Machine.execCmpZpx addr s
  | .cmpAbs addr => Sys2Proof.Machine.execCmpAbs addr s
  | .cmpAbx addr => Sys2Proof.Machine.execCmpAbx addr s
  | .cmpAby addr => Sys2Proof.Machine.execCmpAby addr s
  | .cmpIzx ptr => Sys2Proof.Machine.execCmpIzx ptr s
  | .cmpIzy ptr => Sys2Proof.Machine.execCmpIzy ptr s
  | .cpxImm imm => Sys2Proof.Machine.execCpxImm imm s
  | .cpxZp addr => Sys2Proof.Machine.execCpxZp addr s
  | .cpxAbs addr => Sys2Proof.Machine.execCpxAbs addr s
  | .cpyImm imm => Sys2Proof.Machine.execCpyImm imm s
  | .cpyZp addr => Sys2Proof.Machine.execCpyZp addr s
  | .cpyAbs addr => Sys2Proof.Machine.execCpyAbs addr s
  | .bitZp addr => Sys2Proof.Machine.execBitZp addr s
  | .bitAbs addr => Sys2Proof.Machine.execBitAbs addr s
  | .incZp addr => Sys2Proof.Machine.execIncZp addr s
  | .incZpx addr => Sys2Proof.Machine.execIncZpx addr s
  | .incAbs addr => Sys2Proof.Machine.execIncAbs addr s
  | .incAbx addr => Sys2Proof.Machine.execIncAbx addr s
  | .decZp addr => Sys2Proof.Machine.execDecZp addr s
  | .decZpx addr => Sys2Proof.Machine.execDecZpx addr s
  | .decAbs addr => Sys2Proof.Machine.execDecAbs addr s
  | .decAbx addr => Sys2Proof.Machine.execDecAbx addr s
  | .inx => Sys2Proof.Machine.execInx s
  | .iny => Sys2Proof.Machine.execIny s
  | .dex => Sys2Proof.Machine.execDex s
  | .dey => Sys2Proof.Machine.execDey s
  -- Shift and rotate (spec/42_shift_rotate.md)
  | .aslAcc => Sys2Proof.Machine.execAslAcc s
  | .aslZp addr => Sys2Proof.Machine.execAslZp addr s
  | .aslZpx addr => Sys2Proof.Machine.execAslZpx addr s
  | .aslAbs addr => Sys2Proof.Machine.execAslAbs addr s
  | .aslAbx addr => Sys2Proof.Machine.execAslAbx addr s
  | .lsrAcc => Sys2Proof.Machine.execLsrAcc s
  | .lsrZp addr => Sys2Proof.Machine.execLsrZp addr s
  | .lsrZpx addr => Sys2Proof.Machine.execLsrZpx addr s
  | .lsrAbs addr => Sys2Proof.Machine.execLsrAbs addr s
  | .lsrAbx addr => Sys2Proof.Machine.execLsrAbx addr s
  | .rolAcc => Sys2Proof.Machine.execRolAcc s
  | .rolZp addr => Sys2Proof.Machine.execRolZp addr s
  | .rolZpx addr => Sys2Proof.Machine.execRolZpx addr s
  | .rolAbs addr => Sys2Proof.Machine.execRolAbs addr s
  | .rolAbx addr => Sys2Proof.Machine.execRolAbx addr s
  | .rorAcc => Sys2Proof.Machine.execRorAcc s
  | .rorZp addr => Sys2Proof.Machine.execRorZp addr s
  | .rorZpx addr => Sys2Proof.Machine.execRorZpx addr s
  | .rorAbs addr => Sys2Proof.Machine.execRorAbs addr s
  | .rorAbx addr => Sys2Proof.Machine.execRorAbx addr s
  -- Jumps, calls, branches (spec/43_control_flow.md)
  | .jmpAbs addr => Sys2Proof.Machine.execJmpAbs addr s
  | .jmpInd ptr => Sys2Proof.Machine.execJmpInd ptr s
  | .jsr addr => Sys2Proof.Machine.execJsr addr s
  | .rts => Sys2Proof.Machine.execRts s
  | .bcc offset => Sys2Proof.Machine.execBcc offset s
  | .bcs offset => Sys2Proof.Machine.execBcs offset s
  | .beq offset => Sys2Proof.Machine.execBeq offset s
  | .bne offset => Sys2Proof.Machine.execBne offset s
  | .bmi offset => Sys2Proof.Machine.execBmi offset s
  | .bpl offset => Sys2Proof.Machine.execBpl offset s
  | .bvc offset => Sys2Proof.Machine.execBvc offset s
  | .bvs offset => Sys2Proof.Machine.execBvs offset s
  -- Stack, flags, system (spec/44_stack_flags_system.md)
  | .pha => Sys2Proof.Machine.execPha s
  | .pla => Sys2Proof.Machine.execPla s
  | .php => Sys2Proof.Machine.execPhp s
  | .plp => Sys2Proof.Machine.execPlp s
  | .clc => Sys2Proof.Machine.execClc s
  | .sec => Sys2Proof.Machine.execSec s
  | .cli => Sys2Proof.Machine.execCli s
  | .sei => Sys2Proof.Machine.execSei s
  | .cld => Sys2Proof.Machine.execCld s
  | .sed => Sys2Proof.Machine.execSed s
  | .clv => Sys2Proof.Machine.execClv s
  | .brk signature => Sys2Proof.Machine.execBrk signature s
  | .rti => Sys2Proof.Machine.execRti s
  | .nop => Sys2Proof.Machine.execNop s
  -- The undocumented opcodes, all no-operations (spec/45_illegal_opcodes.md)
  | .slo03 ptr => Sys2Proof.Machine.execSlo03 ptr s
  | .nop04 addr => Sys2Proof.Machine.execNop04 addr s
  | .slo07 addr => Sys2Proof.Machine.execSlo07 addr s
  | .anc0B imm => Sys2Proof.Machine.execAnc0B imm s
  | .nop0C addr => Sys2Proof.Machine.execNop0C addr s
  | .slo0F addr => Sys2Proof.Machine.execSlo0F addr s
  | .slo13 ptr => Sys2Proof.Machine.execSlo13 ptr s
  | .nop14 addr => Sys2Proof.Machine.execNop14 addr s
  | .slo17 addr => Sys2Proof.Machine.execSlo17 addr s
  | .slo1B addr => Sys2Proof.Machine.execSlo1B addr s
  | .nop1C addr => Sys2Proof.Machine.execNop1C addr s
  | .slo1F addr => Sys2Proof.Machine.execSlo1F addr s
  | .rla23 ptr => Sys2Proof.Machine.execRla23 ptr s
  | .rla27 addr => Sys2Proof.Machine.execRla27 addr s
  | .anc2B imm => Sys2Proof.Machine.execAnc2B imm s
  | .rla2F addr => Sys2Proof.Machine.execRla2F addr s
  | .rla33 ptr => Sys2Proof.Machine.execRla33 ptr s
  | .nop34 addr => Sys2Proof.Machine.execNop34 addr s
  | .rla37 addr => Sys2Proof.Machine.execRla37 addr s
  | .rla3B addr => Sys2Proof.Machine.execRla3B addr s
  | .nop3C addr => Sys2Proof.Machine.execNop3C addr s
  | .rla3F addr => Sys2Proof.Machine.execRla3F addr s
  | .sre43 ptr => Sys2Proof.Machine.execSre43 ptr s
  | .nop44 addr => Sys2Proof.Machine.execNop44 addr s
  | .sre47 addr => Sys2Proof.Machine.execSre47 addr s
  | .alr4B imm => Sys2Proof.Machine.execAlr4B imm s
  | .sre4F addr => Sys2Proof.Machine.execSre4F addr s
  | .sre53 ptr => Sys2Proof.Machine.execSre53 ptr s
  | .nop54 addr => Sys2Proof.Machine.execNop54 addr s
  | .sre57 addr => Sys2Proof.Machine.execSre57 addr s
  | .sre5B addr => Sys2Proof.Machine.execSre5B addr s
  | .nop5C addr => Sys2Proof.Machine.execNop5C addr s
  | .sre5F addr => Sys2Proof.Machine.execSre5F addr s
  | .rra63 ptr => Sys2Proof.Machine.execRra63 ptr s
  | .nop64 addr => Sys2Proof.Machine.execNop64 addr s
  | .rra67 addr => Sys2Proof.Machine.execRra67 addr s
  | .arr6B imm => Sys2Proof.Machine.execArr6B imm s
  | .rra6F addr => Sys2Proof.Machine.execRra6F addr s
  | .rra73 ptr => Sys2Proof.Machine.execRra73 ptr s
  | .nop74 addr => Sys2Proof.Machine.execNop74 addr s
  | .rra77 addr => Sys2Proof.Machine.execRra77 addr s
  | .rra7B addr => Sys2Proof.Machine.execRra7B addr s
  | .nop7C addr => Sys2Proof.Machine.execNop7C addr s
  | .rra7F addr => Sys2Proof.Machine.execRra7F addr s
  | .nop80 imm => Sys2Proof.Machine.execNop80 imm s
  | .nop82 imm => Sys2Proof.Machine.execNop82 imm s
  | .sax83 ptr => Sys2Proof.Machine.execSax83 ptr s
  | .sax87 addr => Sys2Proof.Machine.execSax87 addr s
  | .nop89 imm => Sys2Proof.Machine.execNop89 imm s
  | .xaa8B imm => Sys2Proof.Machine.execXaa8B imm s
  | .sax8F addr => Sys2Proof.Machine.execSax8F addr s
  | .ahx93 ptr => Sys2Proof.Machine.execAhx93 ptr s
  | .sax97 addr => Sys2Proof.Machine.execSax97 addr s
  | .tas9B addr => Sys2Proof.Machine.execTas9B addr s
  | .shy9C addr => Sys2Proof.Machine.execShy9C addr s
  | .shx9E addr => Sys2Proof.Machine.execShx9E addr s
  | .ahx9F addr => Sys2Proof.Machine.execAhx9F addr s
  | .laxA3 ptr => Sys2Proof.Machine.execLaxA3 ptr s
  | .laxA7 addr => Sys2Proof.Machine.execLaxA7 addr s
  | .laxAB imm => Sys2Proof.Machine.execLaxAB imm s
  | .laxAF addr => Sys2Proof.Machine.execLaxAF addr s
  | .laxB3 ptr => Sys2Proof.Machine.execLaxB3 ptr s
  | .laxB7 addr => Sys2Proof.Machine.execLaxB7 addr s
  | .lasBB addr => Sys2Proof.Machine.execLasBB addr s
  | .laxBF addr => Sys2Proof.Machine.execLaxBF addr s
  | .nopC2 imm => Sys2Proof.Machine.execNopC2 imm s
  | .dcpC3 ptr => Sys2Proof.Machine.execDcpC3 ptr s
  | .dcpC7 addr => Sys2Proof.Machine.execDcpC7 addr s
  | .axsCB imm => Sys2Proof.Machine.execAxsCB imm s
  | .dcpCF addr => Sys2Proof.Machine.execDcpCF addr s
  | .dcpD3 ptr => Sys2Proof.Machine.execDcpD3 ptr s
  | .nopD4 addr => Sys2Proof.Machine.execNopD4 addr s
  | .dcpD7 addr => Sys2Proof.Machine.execDcpD7 addr s
  | .dcpDB addr => Sys2Proof.Machine.execDcpDB addr s
  | .nopDC addr => Sys2Proof.Machine.execNopDC addr s
  | .dcpDF addr => Sys2Proof.Machine.execDcpDF addr s
  | .nopE2 imm => Sys2Proof.Machine.execNopE2 imm s
  | .iscE3 ptr => Sys2Proof.Machine.execIscE3 ptr s
  | .iscE7 addr => Sys2Proof.Machine.execIscE7 addr s
  | .sbcEB imm => Sys2Proof.Machine.execSbcEB imm s
  | .iscEF addr => Sys2Proof.Machine.execIscEF addr s
  | .iscF3 ptr => Sys2Proof.Machine.execIscF3 ptr s
  | .nopF4 addr => Sys2Proof.Machine.execNopF4 addr s
  | .iscF7 addr => Sys2Proof.Machine.execIscF7 addr s
  | .iscFB addr => Sys2Proof.Machine.execIscFB addr s
  | .nopFC addr => Sys2Proof.Machine.execNopFC addr s
  | .iscFF addr => Sys2Proof.Machine.execIscFF addr s
  | .kil02 => Sys2Proof.Machine.execKil02 s
  | .kil12 => Sys2Proof.Machine.execKil12 s
  | .nop1A => Sys2Proof.Machine.execNop1A s
  | .kil22 => Sys2Proof.Machine.execKil22 s
  | .kil32 => Sys2Proof.Machine.execKil32 s
  | .nop3A => Sys2Proof.Machine.execNop3A s
  | .kil42 => Sys2Proof.Machine.execKil42 s
  | .kil52 => Sys2Proof.Machine.execKil52 s
  | .nop5A => Sys2Proof.Machine.execNop5A s
  | .kil62 => Sys2Proof.Machine.execKil62 s
  | .kil72 => Sys2Proof.Machine.execKil72 s
  | .nop7A => Sys2Proof.Machine.execNop7A s
  | .kil92 => Sys2Proof.Machine.execKil92 s
  | .kilB2 => Sys2Proof.Machine.execKilB2 s
  | .kilD2 => Sys2Proof.Machine.execKilD2 s
  | .nopDA => Sys2Proof.Machine.execNopDA s
  | .kilF2 => Sys2Proof.Machine.execKilF2 s
  | .nopFA => Sys2Proof.Machine.execNopFA s

end Sys2Proof.Machine
end

