-- ==== Sys2Proof/Decode.lean ====
section
/-! DEFINITION. The decoder, the encoder and the opcode table (spec/30_encoding.md R140 to R158). All 256
opcode bytes decode (R154); the decoder refuses only a byte list that ends too early. -/

namespace Sys2Proof

open Sys2Proof.Machine

/-- How an opcode's operand bytes make an instruction (R142, R143). -/
inductive Form where
  /-- One byte: Implied and Accumulator. -/
  | none (i : Instr)
  /-- Two bytes of which the hardware does not read the second: BRK's signature byte (R155) and, with the default
  ILLEGAL_TABLE, the operand of an undocumented Immediate opcode, whose empty handler does not read `al` (R300). -/
  | skip (f : Byte → Instr)
  /-- Two bytes. -/
  | byte (f : Byte → Instr)
  /-- Three bytes: the operand word, low byte first. -/
  | word (f : Word → Instr)

/-- The opcode map, row 0x (R151). -/
def opcodeRow0 : List Form :=
  [.skip .brk, .byte .oraIzx, .none .kil02, .byte .slo03,
   .byte .nop04, .byte .oraZp, .byte .aslZp, .byte .slo07,
   .none .php, .byte .oraImm, .none .aslAcc, .skip .anc0B,
   .word .nop0C, .word .oraAbs, .word .aslAbs, .word .slo0F]

/-- The opcode map, row 1x (R151). -/
def opcodeRow1 : List Form :=
  [.byte .bpl, .byte .oraIzy, .none .kil12, .byte .slo13,
   .byte .nop14, .byte .oraZpx, .byte .aslZpx, .byte .slo17,
   .none .clc, .word .oraAby, .none .nop1A, .word .slo1B,
   .word .nop1C, .word .oraAbx, .word .aslAbx, .word .slo1F]

/-- The opcode map, row 2x (R151). -/
def opcodeRow2 : List Form :=
  [.word .jsr, .byte .andIzx, .none .kil22, .byte .rla23,
   .byte .bitZp, .byte .andZp, .byte .rolZp, .byte .rla27,
   .none .plp, .byte .andImm, .none .rolAcc, .skip .anc2B,
   .word .bitAbs, .word .andAbs, .word .rolAbs, .word .rla2F]

/-- The opcode map, row 3x (R151). -/
def opcodeRow3 : List Form :=
  [.byte .bmi, .byte .andIzy, .none .kil32, .byte .rla33,
   .byte .nop34, .byte .andZpx, .byte .rolZpx, .byte .rla37,
   .none .sec, .word .andAby, .none .nop3A, .word .rla3B,
   .word .nop3C, .word .andAbx, .word .rolAbx, .word .rla3F]

/-- The opcode map, row 4x (R151). -/
def opcodeRow4 : List Form :=
  [.none .rti, .byte .eorIzx, .none .kil42, .byte .sre43,
   .byte .nop44, .byte .eorZp, .byte .lsrZp, .byte .sre47,
   .none .pha, .byte .eorImm, .none .lsrAcc, .skip .alr4B,
   .word .jmpAbs, .word .eorAbs, .word .lsrAbs, .word .sre4F]

/-- The opcode map, row 5x (R151). -/
def opcodeRow5 : List Form :=
  [.byte .bvc, .byte .eorIzy, .none .kil52, .byte .sre53,
   .byte .nop54, .byte .eorZpx, .byte .lsrZpx, .byte .sre57,
   .none .cli, .word .eorAby, .none .nop5A, .word .sre5B,
   .word .nop5C, .word .eorAbx, .word .lsrAbx, .word .sre5F]

/-- The opcode map, row 6x (R151). -/
def opcodeRow6 : List Form :=
  [.none .rts, .byte .adcIzx, .none .kil62, .byte .rra63,
   .byte .nop64, .byte .adcZp, .byte .rorZp, .byte .rra67,
   .none .pla, .byte .adcImm, .none .rorAcc, .skip .arr6B,
   .word .jmpInd, .word .adcAbs, .word .rorAbs, .word .rra6F]

/-- The opcode map, row 7x (R151). -/
def opcodeRow7 : List Form :=
  [.byte .bvs, .byte .adcIzy, .none .kil72, .byte .rra73,
   .byte .nop74, .byte .adcZpx, .byte .rorZpx, .byte .rra77,
   .none .sei, .word .adcAby, .none .nop7A, .word .rra7B,
   .word .nop7C, .word .adcAbx, .word .rorAbx, .word .rra7F]

/-- The opcode map, row 8x (R151). -/
def opcodeRow8 : List Form :=
  [.skip .nop80, .byte .staIzx, .skip .nop82, .byte .sax83,
   .byte .styZp, .byte .staZp, .byte .stxZp, .byte .sax87,
   .none .dey, .skip .nop89, .none .txa, .skip .xaa8B,
   .word .styAbs, .word .staAbs, .word .stxAbs, .word .sax8F]

/-- The opcode map, row 9x (R151). -/
def opcodeRow9 : List Form :=
  [.byte .bcc, .byte .staIzy, .none .kil92, .byte .ahx93,
   .byte .styZpx, .byte .staZpx, .byte .stxZpy, .byte .sax97,
   .none .tya, .word .staAby, .none .txs, .word .tas9B,
   .word .shy9C, .word .staAbx, .word .shx9E, .word .ahx9F]

/-- The opcode map, row Ax (R151). -/
def opcodeRowA : List Form :=
  [.byte .ldyImm, .byte .ldaIzx, .byte .ldxImm, .byte .laxA3,
   .byte .ldyZp, .byte .ldaZp, .byte .ldxZp, .byte .laxA7,
   .none .tay, .byte .ldaImm, .none .tax, .skip .laxAB,
   .word .ldyAbs, .word .ldaAbs, .word .ldxAbs, .word .laxAF]

/-- The opcode map, row Bx (R151). -/
def opcodeRowB : List Form :=
  [.byte .bcs, .byte .ldaIzy, .none .kilB2, .byte .laxB3,
   .byte .ldyZpx, .byte .ldaZpx, .byte .ldxZpy, .byte .laxB7,
   .none .clv, .word .ldaAby, .none .tsx, .word .lasBB,
   .word .ldyAbx, .word .ldaAbx, .word .ldxAby, .word .laxBF]

/-- The opcode map, row Cx (R151). -/
def opcodeRowC : List Form :=
  [.byte .cpyImm, .byte .cmpIzx, .skip .nopC2, .byte .dcpC3,
   .byte .cpyZp, .byte .cmpZp, .byte .decZp, .byte .dcpC7,
   .none .iny, .byte .cmpImm, .none .dex, .skip .axsCB,
   .word .cpyAbs, .word .cmpAbs, .word .decAbs, .word .dcpCF]

/-- The opcode map, row Dx (R151). -/
def opcodeRowD : List Form :=
  [.byte .bne, .byte .cmpIzy, .none .kilD2, .byte .dcpD3,
   .byte .nopD4, .byte .cmpZpx, .byte .decZpx, .byte .dcpD7,
   .none .cld, .word .cmpAby, .none .nopDA, .word .dcpDB,
   .word .nopDC, .word .cmpAbx, .word .decAbx, .word .dcpDF]

/-- The opcode map, row Ex (R151). -/
def opcodeRowE : List Form :=
  [.byte .cpxImm, .byte .sbcIzx, .skip .nopE2, .byte .iscE3,
   .byte .cpxZp, .byte .sbcZp, .byte .incZp, .byte .iscE7,
   .none .inx, .byte .sbcImm, .none .nop, .skip .sbcEB,
   .word .cpxAbs, .word .sbcAbs, .word .incAbs, .word .iscEF]

/-- The opcode map, row Fx (R151). -/
def opcodeRowF : List Form :=
  [.byte .beq, .byte .sbcIzy, .none .kilF2, .byte .iscF3,
   .byte .nopF4, .byte .sbcZpx, .byte .incZpx, .byte .iscF7,
   .none .sed, .word .sbcAby, .none .nopFA, .word .iscFB,
   .word .nopFC, .word .sbcAbx, .word .incAbx, .word .iscFF]

/-- The 256-way decode table (R142, R151). -/
def opcodeMap : List Form :=
  opcodeRow0 ++ opcodeRow1 ++ opcodeRow2 ++ opcodeRow3 ++
  opcodeRow4 ++ opcodeRow5 ++ opcodeRow6 ++ opcodeRow7 ++
  opcodeRow8 ++ opcodeRow9 ++ opcodeRowA ++ opcodeRowB ++
  opcodeRowC ++ opcodeRowD ++ opcodeRowE ++ opcodeRowF

theorem opcodeMap_length : opcodeMap.length = 256 := by
  simp only [opcodeMap, List.length_append]
  rfl

/-- What an opcode byte decodes to (R140): total. -/
def opForm (op : Byte) : Form := opcodeMap[op.toNat]'(by rw [opcodeMap_length]; exact op.isLt)

/-- The instruction a form makes of the two bytes after the opcode, as far as it has them (R142, R143). -/
def Form.instr (f : Form) (b1 b2 : Byte) : Instr :=
  match f with
  | .none i => i
  | .skip g => g b1
  | .byte g => g b1
  | .word g => g (wordOf b2 b1)

/-- Why the decoder refuses a byte list. -/
inductive DecodeError where
  /-- There is no opcode byte. -/
  | empty
  /-- The list ends before the instruction does. -/
  | truncated
deriving DecidableEq, Repr

/-- Decode the instruction at the head of a byte list, and give the bytes after it (R140, R142, R143). -/
def decode : List Byte → Except DecodeError (Instr × List Byte)
  | [] => .error .empty
  | op :: rest =>
    match opForm op with
    | .none i => .ok (i, rest)
    | .skip f =>
      match rest with
      | b :: rest => .ok (f b, rest)
      | [] => .error .truncated
    | .byte f =>
      match rest with
      | b :: rest => .ok (f b, rest)
      | [] => .error .truncated
    | .word f =>
      match rest with
      | lo :: hi :: rest => .ok (f (wordOf hi lo), rest)
      | _ => .error .truncated

/-- The instruction the decoder reads from the bytes that `w` numbers as spec/opcode_table.json does: byte 0
least significant, every bit above `nbits` 0. The longest instruction has three bytes. -/
def decodeTableWord (nbits w : Nat) : Option Instr :=
  let v := w % 2 ^ nbits
  match decode [byteAt v 0, byteAt v 1, byteAt v 2] with
  | .ok (i, _) => some i
  | .error _ => none

/-- The bytes of an instruction, lowest address first (R142, R150, R153). -/
def encode : Instr → List Byte
  | .ldaImm b => [0xA9, b]
  | .ldaZp b => [0xA5, b]
  | .ldaZpx b => [0xB5, b]
  | .ldaAbs w => [0xAD, loByte w, hiByte w]
  | .ldaAbx w => [0xBD, loByte w, hiByte w]
  | .ldaAby w => [0xB9, loByte w, hiByte w]
  | .ldaIzx b => [0xA1, b]
  | .ldaIzy b => [0xB1, b]
  | .ldxImm b => [0xA2, b]
  | .ldxZp b => [0xA6, b]
  | .ldxZpy b => [0xB6, b]
  | .ldxAbs w => [0xAE, loByte w, hiByte w]
  | .ldxAby w => [0xBE, loByte w, hiByte w]
  | .ldyImm b => [0xA0, b]
  | .ldyZp b => [0xA4, b]
  | .ldyZpx b => [0xB4, b]
  | .ldyAbs w => [0xAC, loByte w, hiByte w]
  | .ldyAbx w => [0xBC, loByte w, hiByte w]
  | .staZp b => [0x85, b]
  | .staZpx b => [0x95, b]
  | .staAbs w => [0x8D, loByte w, hiByte w]
  | .staAbx w => [0x9D, loByte w, hiByte w]
  | .staAby w => [0x99, loByte w, hiByte w]
  | .staIzx b => [0x81, b]
  | .staIzy b => [0x91, b]
  | .stxZp b => [0x86, b]
  | .stxZpy b => [0x96, b]
  | .stxAbs w => [0x8E, loByte w, hiByte w]
  | .styZp b => [0x84, b]
  | .styZpx b => [0x94, b]
  | .styAbs w => [0x8C, loByte w, hiByte w]
  | .tax => [0xAA]
  | .tay => [0xA8]
  | .txa => [0x8A]
  | .tya => [0x98]
  | .tsx => [0xBA]
  | .txs => [0x9A]
  | .adcImm b => [0x69, b]
  | .adcZp b => [0x65, b]
  | .adcZpx b => [0x75, b]
  | .adcAbs w => [0x6D, loByte w, hiByte w]
  | .adcAbx w => [0x7D, loByte w, hiByte w]
  | .adcAby w => [0x79, loByte w, hiByte w]
  | .adcIzx b => [0x61, b]
  | .adcIzy b => [0x71, b]
  | .sbcImm b => [0xE9, b]
  | .sbcZp b => [0xE5, b]
  | .sbcZpx b => [0xF5, b]
  | .sbcAbs w => [0xED, loByte w, hiByte w]
  | .sbcAbx w => [0xFD, loByte w, hiByte w]
  | .sbcAby w => [0xF9, loByte w, hiByte w]
  | .sbcIzx b => [0xE1, b]
  | .sbcIzy b => [0xF1, b]
  | .andImm b => [0x29, b]
  | .andZp b => [0x25, b]
  | .andZpx b => [0x35, b]
  | .andAbs w => [0x2D, loByte w, hiByte w]
  | .andAbx w => [0x3D, loByte w, hiByte w]
  | .andAby w => [0x39, loByte w, hiByte w]
  | .andIzx b => [0x21, b]
  | .andIzy b => [0x31, b]
  | .oraImm b => [0x09, b]
  | .oraZp b => [0x05, b]
  | .oraZpx b => [0x15, b]
  | .oraAbs w => [0x0D, loByte w, hiByte w]
  | .oraAbx w => [0x1D, loByte w, hiByte w]
  | .oraAby w => [0x19, loByte w, hiByte w]
  | .oraIzx b => [0x01, b]
  | .oraIzy b => [0x11, b]
  | .eorImm b => [0x49, b]
  | .eorZp b => [0x45, b]
  | .eorZpx b => [0x55, b]
  | .eorAbs w => [0x4D, loByte w, hiByte w]
  | .eorAbx w => [0x5D, loByte w, hiByte w]
  | .eorAby w => [0x59, loByte w, hiByte w]
  | .eorIzx b => [0x41, b]
  | .eorIzy b => [0x51, b]
  | .cmpImm b => [0xC9, b]
  | .cmpZp b => [0xC5, b]
  | .cmpZpx b => [0xD5, b]
  | .cmpAbs w => [0xCD, loByte w, hiByte w]
  | .cmpAbx w => [0xDD, loByte w, hiByte w]
  | .cmpAby w => [0xD9, loByte w, hiByte w]
  | .cmpIzx b => [0xC1, b]
  | .cmpIzy b => [0xD1, b]
  | .cpxImm b => [0xE0, b]
  | .cpxZp b => [0xE4, b]
  | .cpxAbs w => [0xEC, loByte w, hiByte w]
  | .cpyImm b => [0xC0, b]
  | .cpyZp b => [0xC4, b]
  | .cpyAbs w => [0xCC, loByte w, hiByte w]
  | .bitZp b => [0x24, b]
  | .bitAbs w => [0x2C, loByte w, hiByte w]
  | .incZp b => [0xE6, b]
  | .incZpx b => [0xF6, b]
  | .incAbs w => [0xEE, loByte w, hiByte w]
  | .incAbx w => [0xFE, loByte w, hiByte w]
  | .decZp b => [0xC6, b]
  | .decZpx b => [0xD6, b]
  | .decAbs w => [0xCE, loByte w, hiByte w]
  | .decAbx w => [0xDE, loByte w, hiByte w]
  | .inx => [0xE8]
  | .iny => [0xC8]
  | .dex => [0xCA]
  | .dey => [0x88]
  | .aslAcc => [0x0A]
  | .aslZp b => [0x06, b]
  | .aslZpx b => [0x16, b]
  | .aslAbs w => [0x0E, loByte w, hiByte w]
  | .aslAbx w => [0x1E, loByte w, hiByte w]
  | .lsrAcc => [0x4A]
  | .lsrZp b => [0x46, b]
  | .lsrZpx b => [0x56, b]
  | .lsrAbs w => [0x4E, loByte w, hiByte w]
  | .lsrAbx w => [0x5E, loByte w, hiByte w]
  | .rolAcc => [0x2A]
  | .rolZp b => [0x26, b]
  | .rolZpx b => [0x36, b]
  | .rolAbs w => [0x2E, loByte w, hiByte w]
  | .rolAbx w => [0x3E, loByte w, hiByte w]
  | .rorAcc => [0x6A]
  | .rorZp b => [0x66, b]
  | .rorZpx b => [0x76, b]
  | .rorAbs w => [0x6E, loByte w, hiByte w]
  | .rorAbx w => [0x7E, loByte w, hiByte w]
  | .jmpAbs w => [0x4C, loByte w, hiByte w]
  | .jmpInd w => [0x6C, loByte w, hiByte w]
  | .jsr w => [0x20, loByte w, hiByte w]
  | .rts => [0x60]
  | .bcc b => [0x90, b]
  | .bcs b => [0xB0, b]
  | .beq b => [0xF0, b]
  | .bne b => [0xD0, b]
  | .bmi b => [0x30, b]
  | .bpl b => [0x10, b]
  | .bvc b => [0x50, b]
  | .bvs b => [0x70, b]
  | .pha => [0x48]
  | .pla => [0x68]
  | .php => [0x08]
  | .plp => [0x28]
  | .clc => [0x18]
  | .sec => [0x38]
  | .cli => [0x58]
  | .sei => [0x78]
  | .cld => [0xD8]
  | .sed => [0xF8]
  | .clv => [0xB8]
  | .brk b => [0x00, b]
  | .rti => [0x40]
  | .nop => [0xEA]
  | .slo03 b => [0x03, b]
  | .nop04 b => [0x04, b]
  | .slo07 b => [0x07, b]
  | .anc0B b => [0x0B, b]
  | .nop0C w => [0x0C, loByte w, hiByte w]
  | .slo0F w => [0x0F, loByte w, hiByte w]
  | .slo13 b => [0x13, b]
  | .nop14 b => [0x14, b]
  | .slo17 b => [0x17, b]
  | .slo1B w => [0x1B, loByte w, hiByte w]
  | .nop1C w => [0x1C, loByte w, hiByte w]
  | .slo1F w => [0x1F, loByte w, hiByte w]
  | .rla23 b => [0x23, b]
  | .rla27 b => [0x27, b]
  | .anc2B b => [0x2B, b]
  | .rla2F w => [0x2F, loByte w, hiByte w]
  | .rla33 b => [0x33, b]
  | .nop34 b => [0x34, b]
  | .rla37 b => [0x37, b]
  | .rla3B w => [0x3B, loByte w, hiByte w]
  | .nop3C w => [0x3C, loByte w, hiByte w]
  | .rla3F w => [0x3F, loByte w, hiByte w]
  | .sre43 b => [0x43, b]
  | .nop44 b => [0x44, b]
  | .sre47 b => [0x47, b]
  | .alr4B b => [0x4B, b]
  | .sre4F w => [0x4F, loByte w, hiByte w]
  | .sre53 b => [0x53, b]
  | .nop54 b => [0x54, b]
  | .sre57 b => [0x57, b]
  | .sre5B w => [0x5B, loByte w, hiByte w]
  | .nop5C w => [0x5C, loByte w, hiByte w]
  | .sre5F w => [0x5F, loByte w, hiByte w]
  | .rra63 b => [0x63, b]
  | .nop64 b => [0x64, b]
  | .rra67 b => [0x67, b]
  | .arr6B b => [0x6B, b]
  | .rra6F w => [0x6F, loByte w, hiByte w]
  | .rra73 b => [0x73, b]
  | .nop74 b => [0x74, b]
  | .rra77 b => [0x77, b]
  | .rra7B w => [0x7B, loByte w, hiByte w]
  | .nop7C w => [0x7C, loByte w, hiByte w]
  | .rra7F w => [0x7F, loByte w, hiByte w]
  | .nop80 b => [0x80, b]
  | .nop82 b => [0x82, b]
  | .sax83 b => [0x83, b]
  | .sax87 b => [0x87, b]
  | .nop89 b => [0x89, b]
  | .xaa8B b => [0x8B, b]
  | .sax8F w => [0x8F, loByte w, hiByte w]
  | .ahx93 b => [0x93, b]
  | .sax97 b => [0x97, b]
  | .tas9B w => [0x9B, loByte w, hiByte w]
  | .shy9C w => [0x9C, loByte w, hiByte w]
  | .shx9E w => [0x9E, loByte w, hiByte w]
  | .ahx9F w => [0x9F, loByte w, hiByte w]
  | .laxA3 b => [0xA3, b]
  | .laxA7 b => [0xA7, b]
  | .laxAB b => [0xAB, b]
  | .laxAF w => [0xAF, loByte w, hiByte w]
  | .laxB3 b => [0xB3, b]
  | .laxB7 b => [0xB7, b]
  | .lasBB w => [0xBB, loByte w, hiByte w]
  | .laxBF w => [0xBF, loByte w, hiByte w]
  | .nopC2 b => [0xC2, b]
  | .dcpC3 b => [0xC3, b]
  | .dcpC7 b => [0xC7, b]
  | .axsCB b => [0xCB, b]
  | .dcpCF w => [0xCF, loByte w, hiByte w]
  | .dcpD3 b => [0xD3, b]
  | .nopD4 b => [0xD4, b]
  | .dcpD7 b => [0xD7, b]
  | .dcpDB w => [0xDB, loByte w, hiByte w]
  | .nopDC w => [0xDC, loByte w, hiByte w]
  | .dcpDF w => [0xDF, loByte w, hiByte w]
  | .nopE2 b => [0xE2, b]
  | .iscE3 b => [0xE3, b]
  | .iscE7 b => [0xE7, b]
  | .sbcEB b => [0xEB, b]
  | .iscEF w => [0xEF, loByte w, hiByte w]
  | .iscF3 b => [0xF3, b]
  | .nopF4 b => [0xF4, b]
  | .iscF7 b => [0xF7, b]
  | .iscFB w => [0xFB, loByte w, hiByte w]
  | .nopFC w => [0xFC, loByte w, hiByte w]
  | .iscFF w => [0xFF, loByte w, hiByte w]
  | .kil02 => [0x02]
  | .kil12 => [0x12]
  | .nop1A => [0x1A]
  | .kil22 => [0x22]
  | .kil32 => [0x32]
  | .nop3A => [0x3A]
  | .kil42 => [0x42]
  | .kil52 => [0x52]
  | .nop5A => [0x5A]
  | .kil62 => [0x62]
  | .kil72 => [0x72]
  | .nop7A => [0x7A]
  | .kil92 => [0x92]
  | .kilB2 => [0xB2]
  | .kilD2 => [0xD2]
  | .nopDA => [0xDA]
  | .kilF2 => [0xF2]
  | .nopFA => [0xFA]

/-- One row of the opcode table: mnemonic, addressing mode, and SIZE, CYCLES, PAGECYCLES (R141, R150, R153).
An undocumented opcode's name is a label only (R153). -/
structure OpRow where
  mnemonic : String
  mode : Mode
  cost : OpCost
  documented : Bool
deriving DecidableEq, Repr

/-- Rows $00 to $0F of the opcode table (R150, R153). -/
def opRows0 : List OpRow :=
  [⟨"BRK", .implied, ⟨2, 7, 0⟩, true⟩,
   ⟨"ORA", .indexedIndirect, ⟨2, 6, 0⟩, true⟩,
   ⟨"*kil", .implied, ⟨1, 2, 0⟩, false⟩,
   ⟨"*slo", .indexedIndirect, ⟨2, 8, 0⟩, false⟩,
   ⟨"*nop", .zeroPage, ⟨2, 3, 0⟩, false⟩,
   ⟨"ORA", .zeroPage, ⟨2, 3, 0⟩, true⟩,
   ⟨"ASL", .zeroPage, ⟨2, 5, 0⟩, true⟩,
   ⟨"*slo", .zeroPage, ⟨2, 5, 0⟩, false⟩,
   ⟨"PHP", .implied, ⟨1, 3, 0⟩, true⟩,
   ⟨"ORA", .immediate, ⟨2, 2, 0⟩, true⟩,
   ⟨"ASL", .accumulator, ⟨1, 2, 0⟩, true⟩,
   ⟨"*anc", .immediate, ⟨2, 2, 0⟩, false⟩,
   ⟨"*nop", .absolute, ⟨3, 4, 0⟩, false⟩,
   ⟨"ORA", .absolute, ⟨3, 4, 0⟩, true⟩,
   ⟨"ASL", .absolute, ⟨3, 6, 0⟩, true⟩,
   ⟨"*slo", .absolute, ⟨3, 6, 0⟩, false⟩]

/-- Rows $10 to $1F of the opcode table (R150, R153). -/
def opRows1 : List OpRow :=
  [⟨"BPL", .relative, ⟨2, 2, 0⟩, true⟩,
   ⟨"ORA", .indirectIndexed, ⟨2, 5, 1⟩, true⟩,
   ⟨"*kil", .implied, ⟨1, 2, 0⟩, false⟩,
   ⟨"*slo", .indirectIndexed, ⟨2, 8, 0⟩, false⟩,
   ⟨"*nop", .zeroPageX, ⟨2, 4, 0⟩, false⟩,
   ⟨"ORA", .zeroPageX, ⟨2, 4, 0⟩, true⟩,
   ⟨"ASL", .zeroPageX, ⟨2, 6, 0⟩, true⟩,
   ⟨"*slo", .zeroPageX, ⟨2, 6, 0⟩, false⟩,
   ⟨"CLC", .implied, ⟨1, 2, 0⟩, true⟩,
   ⟨"ORA", .absoluteY, ⟨3, 4, 1⟩, true⟩,
   ⟨"*nop", .implied, ⟨1, 2, 0⟩, false⟩,
   ⟨"*slo", .absoluteY, ⟨3, 7, 0⟩, false⟩,
   ⟨"*nop", .absoluteX, ⟨3, 4, 1⟩, false⟩,
   ⟨"ORA", .absoluteX, ⟨3, 4, 1⟩, true⟩,
   ⟨"ASL", .absoluteX, ⟨3, 7, 0⟩, true⟩,
   ⟨"*slo", .absoluteX, ⟨3, 7, 0⟩, false⟩]

/-- Rows $20 to $2F of the opcode table (R150, R153). -/
def opRows2 : List OpRow :=
  [⟨"JSR", .absolute, ⟨3, 6, 0⟩, true⟩,
   ⟨"AND", .indexedIndirect, ⟨2, 6, 0⟩, true⟩,
   ⟨"*kil", .implied, ⟨1, 2, 0⟩, false⟩,
   ⟨"*rla", .indexedIndirect, ⟨2, 8, 0⟩, false⟩,
   ⟨"BIT", .zeroPage, ⟨2, 3, 0⟩, true⟩,
   ⟨"AND", .zeroPage, ⟨2, 3, 0⟩, true⟩,
   ⟨"ROL", .zeroPage, ⟨2, 5, 0⟩, true⟩,
   ⟨"*rla", .zeroPage, ⟨2, 5, 0⟩, false⟩,
   ⟨"PLP", .implied, ⟨1, 4, 0⟩, true⟩,
   ⟨"AND", .immediate, ⟨2, 2, 0⟩, true⟩,
   ⟨"ROL", .accumulator, ⟨1, 2, 0⟩, true⟩,
   ⟨"*anc", .immediate, ⟨2, 2, 0⟩, false⟩,
   ⟨"BIT", .absolute, ⟨3, 4, 0⟩, true⟩,
   ⟨"AND", .absolute, ⟨3, 4, 0⟩, true⟩,
   ⟨"ROL", .absolute, ⟨3, 6, 0⟩, true⟩,
   ⟨"*rla", .absolute, ⟨3, 6, 0⟩, false⟩]

/-- Rows $30 to $3F of the opcode table (R150, R153). -/
def opRows3 : List OpRow :=
  [⟨"BMI", .relative, ⟨2, 2, 0⟩, true⟩,
   ⟨"AND", .indirectIndexed, ⟨2, 5, 1⟩, true⟩,
   ⟨"*kil", .implied, ⟨1, 2, 0⟩, false⟩,
   ⟨"*rla", .indirectIndexed, ⟨2, 8, 0⟩, false⟩,
   ⟨"*nop", .zeroPageX, ⟨2, 4, 0⟩, false⟩,
   ⟨"AND", .zeroPageX, ⟨2, 4, 0⟩, true⟩,
   ⟨"ROL", .zeroPageX, ⟨2, 6, 0⟩, true⟩,
   ⟨"*rla", .zeroPageX, ⟨2, 6, 0⟩, false⟩,
   ⟨"SEC", .implied, ⟨1, 2, 0⟩, true⟩,
   ⟨"AND", .absoluteY, ⟨3, 4, 1⟩, true⟩,
   ⟨"*nop", .implied, ⟨1, 2, 0⟩, false⟩,
   ⟨"*rla", .absoluteY, ⟨3, 7, 0⟩, false⟩,
   ⟨"*nop", .absoluteX, ⟨3, 4, 1⟩, false⟩,
   ⟨"AND", .absoluteX, ⟨3, 4, 1⟩, true⟩,
   ⟨"ROL", .absoluteX, ⟨3, 7, 0⟩, true⟩,
   ⟨"*rla", .absoluteX, ⟨3, 7, 0⟩, false⟩]

/-- Rows $40 to $4F of the opcode table (R150, R153). -/
def opRows4 : List OpRow :=
  [⟨"RTI", .implied, ⟨1, 6, 0⟩, true⟩,
   ⟨"EOR", .indexedIndirect, ⟨2, 6, 0⟩, true⟩,
   ⟨"*kil", .implied, ⟨1, 2, 0⟩, false⟩,
   ⟨"*sre", .indexedIndirect, ⟨2, 8, 0⟩, false⟩,
   ⟨"*nop", .zeroPage, ⟨2, 3, 0⟩, false⟩,
   ⟨"EOR", .zeroPage, ⟨2, 3, 0⟩, true⟩,
   ⟨"LSR", .zeroPage, ⟨2, 5, 0⟩, true⟩,
   ⟨"*sre", .zeroPage, ⟨2, 5, 0⟩, false⟩,
   ⟨"PHA", .implied, ⟨1, 3, 0⟩, true⟩,
   ⟨"EOR", .immediate, ⟨2, 2, 0⟩, true⟩,
   ⟨"LSR", .accumulator, ⟨1, 2, 0⟩, true⟩,
   ⟨"*alr", .immediate, ⟨2, 2, 0⟩, false⟩,
   ⟨"JMP", .absolute, ⟨3, 3, 0⟩, true⟩,
   ⟨"EOR", .absolute, ⟨3, 4, 0⟩, true⟩,
   ⟨"LSR", .absolute, ⟨3, 6, 0⟩, true⟩,
   ⟨"*sre", .absolute, ⟨3, 6, 0⟩, false⟩]

/-- Rows $50 to $5F of the opcode table (R150, R153). -/
def opRows5 : List OpRow :=
  [⟨"BVC", .relative, ⟨2, 2, 0⟩, true⟩,
   ⟨"EOR", .indirectIndexed, ⟨2, 5, 1⟩, true⟩,
   ⟨"*kil", .implied, ⟨1, 2, 0⟩, false⟩,
   ⟨"*sre", .indirectIndexed, ⟨2, 8, 0⟩, false⟩,
   ⟨"*nop", .zeroPageX, ⟨2, 4, 0⟩, false⟩,
   ⟨"EOR", .zeroPageX, ⟨2, 4, 0⟩, true⟩,
   ⟨"LSR", .zeroPageX, ⟨2, 6, 0⟩, true⟩,
   ⟨"*sre", .zeroPageX, ⟨2, 6, 0⟩, false⟩,
   ⟨"CLI", .implied, ⟨1, 2, 0⟩, true⟩,
   ⟨"EOR", .absoluteY, ⟨3, 4, 1⟩, true⟩,
   ⟨"*nop", .implied, ⟨1, 2, 0⟩, false⟩,
   ⟨"*sre", .absoluteY, ⟨3, 7, 0⟩, false⟩,
   ⟨"*nop", .absoluteX, ⟨3, 4, 1⟩, false⟩,
   ⟨"EOR", .absoluteX, ⟨3, 4, 1⟩, true⟩,
   ⟨"LSR", .absoluteX, ⟨3, 7, 0⟩, true⟩,
   ⟨"*sre", .absoluteX, ⟨3, 7, 0⟩, false⟩]

/-- Rows $60 to $6F of the opcode table (R150, R153). -/
def opRows6 : List OpRow :=
  [⟨"RTS", .implied, ⟨1, 6, 0⟩, true⟩,
   ⟨"ADC", .indexedIndirect, ⟨2, 6, 0⟩, true⟩,
   ⟨"*kil", .implied, ⟨1, 2, 0⟩, false⟩,
   ⟨"*rra", .indexedIndirect, ⟨2, 8, 0⟩, false⟩,
   ⟨"*nop", .zeroPage, ⟨2, 3, 0⟩, false⟩,
   ⟨"ADC", .zeroPage, ⟨2, 3, 0⟩, true⟩,
   ⟨"ROR", .zeroPage, ⟨2, 5, 0⟩, true⟩,
   ⟨"*rra", .zeroPage, ⟨2, 5, 0⟩, false⟩,
   ⟨"PLA", .implied, ⟨1, 4, 0⟩, true⟩,
   ⟨"ADC", .immediate, ⟨2, 2, 0⟩, true⟩,
   ⟨"ROR", .accumulator, ⟨1, 2, 0⟩, true⟩,
   ⟨"*arr", .immediate, ⟨2, 2, 0⟩, false⟩,
   ⟨"JMP", .indirect, ⟨3, 5, 0⟩, true⟩,
   ⟨"ADC", .absolute, ⟨3, 4, 0⟩, true⟩,
   ⟨"ROR", .absolute, ⟨3, 6, 0⟩, true⟩,
   ⟨"*rra", .absolute, ⟨3, 6, 0⟩, false⟩]

/-- Rows $70 to $7F of the opcode table (R150, R153). -/
def opRows7 : List OpRow :=
  [⟨"BVS", .relative, ⟨2, 2, 0⟩, true⟩,
   ⟨"ADC", .indirectIndexed, ⟨2, 5, 1⟩, true⟩,
   ⟨"*kil", .implied, ⟨1, 2, 0⟩, false⟩,
   ⟨"*rra", .indirectIndexed, ⟨2, 8, 0⟩, false⟩,
   ⟨"*nop", .zeroPageX, ⟨2, 4, 0⟩, false⟩,
   ⟨"ADC", .zeroPageX, ⟨2, 4, 0⟩, true⟩,
   ⟨"ROR", .zeroPageX, ⟨2, 6, 0⟩, true⟩,
   ⟨"*rra", .zeroPageX, ⟨2, 6, 0⟩, false⟩,
   ⟨"SEI", .implied, ⟨1, 2, 0⟩, true⟩,
   ⟨"ADC", .absoluteY, ⟨3, 4, 1⟩, true⟩,
   ⟨"*nop", .implied, ⟨1, 2, 0⟩, false⟩,
   ⟨"*rra", .absoluteY, ⟨3, 7, 0⟩, false⟩,
   ⟨"*nop", .absoluteX, ⟨3, 4, 1⟩, false⟩,
   ⟨"ADC", .absoluteX, ⟨3, 4, 1⟩, true⟩,
   ⟨"ROR", .absoluteX, ⟨3, 7, 0⟩, true⟩,
   ⟨"*rra", .absoluteX, ⟨3, 7, 0⟩, false⟩]

/-- Rows $80 to $8F of the opcode table (R150, R153). -/
def opRows8 : List OpRow :=
  [⟨"*nop", .immediate, ⟨2, 2, 0⟩, false⟩,
   ⟨"STA", .indexedIndirect, ⟨2, 6, 0⟩, true⟩,
   ⟨"*nop", .immediate, ⟨2, 2, 0⟩, false⟩,
   ⟨"*sax", .indexedIndirect, ⟨2, 6, 0⟩, false⟩,
   ⟨"STY", .zeroPage, ⟨2, 3, 0⟩, true⟩,
   ⟨"STA", .zeroPage, ⟨2, 3, 0⟩, true⟩,
   ⟨"STX", .zeroPage, ⟨2, 3, 0⟩, true⟩,
   ⟨"*sax", .zeroPage, ⟨2, 3, 0⟩, false⟩,
   ⟨"DEY", .implied, ⟨1, 2, 0⟩, true⟩,
   ⟨"*nop", .immediate, ⟨2, 2, 0⟩, false⟩,
   ⟨"TXA", .implied, ⟨1, 2, 0⟩, true⟩,
   ⟨"*xaa", .immediate, ⟨2, 2, 0⟩, false⟩,
   ⟨"STY", .absolute, ⟨3, 4, 0⟩, true⟩,
   ⟨"STA", .absolute, ⟨3, 4, 0⟩, true⟩,
   ⟨"STX", .absolute, ⟨3, 4, 0⟩, true⟩,
   ⟨"*sax", .absolute, ⟨3, 4, 0⟩, false⟩]

/-- Rows $90 to $9F of the opcode table (R150, R153). -/
def opRows9 : List OpRow :=
  [⟨"BCC", .relative, ⟨2, 2, 0⟩, true⟩,
   ⟨"STA", .indirectIndexed, ⟨2, 6, 0⟩, true⟩,
   ⟨"*kil", .implied, ⟨1, 2, 0⟩, false⟩,
   ⟨"*ahx", .indirectIndexed, ⟨2, 6, 0⟩, false⟩,
   ⟨"STY", .zeroPageX, ⟨2, 4, 0⟩, true⟩,
   ⟨"STA", .zeroPageX, ⟨2, 4, 0⟩, true⟩,
   ⟨"STX", .zeroPageY, ⟨2, 4, 0⟩, true⟩,
   ⟨"*sax", .zeroPageY, ⟨2, 4, 0⟩, false⟩,
   ⟨"TYA", .implied, ⟨1, 2, 0⟩, true⟩,
   ⟨"STA", .absoluteY, ⟨3, 5, 0⟩, true⟩,
   ⟨"TXS", .implied, ⟨1, 2, 0⟩, true⟩,
   ⟨"*tas", .absoluteY, ⟨3, 5, 0⟩, false⟩,
   ⟨"*shy", .absoluteX, ⟨3, 5, 0⟩, false⟩,
   ⟨"STA", .absoluteX, ⟨3, 5, 0⟩, true⟩,
   ⟨"*shx", .absoluteY, ⟨3, 5, 0⟩, false⟩,
   ⟨"*ahx", .absoluteY, ⟨3, 5, 0⟩, false⟩]

/-- Rows $A0 to $AF of the opcode table (R150, R153). -/
def opRowsA : List OpRow :=
  [⟨"LDY", .immediate, ⟨2, 2, 0⟩, true⟩,
   ⟨"LDA", .indexedIndirect, ⟨2, 6, 0⟩, true⟩,
   ⟨"LDX", .immediate, ⟨2, 2, 0⟩, true⟩,
   ⟨"*lax", .indexedIndirect, ⟨2, 6, 0⟩, false⟩,
   ⟨"LDY", .zeroPage, ⟨2, 3, 0⟩, true⟩,
   ⟨"LDA", .zeroPage, ⟨2, 3, 0⟩, true⟩,
   ⟨"LDX", .zeroPage, ⟨2, 3, 0⟩, true⟩,
   ⟨"*lax", .zeroPage, ⟨2, 3, 0⟩, false⟩,
   ⟨"TAY", .implied, ⟨1, 2, 0⟩, true⟩,
   ⟨"LDA", .immediate, ⟨2, 2, 0⟩, true⟩,
   ⟨"TAX", .implied, ⟨1, 2, 0⟩, true⟩,
   ⟨"*lax", .immediate, ⟨2, 2, 0⟩, false⟩,
   ⟨"LDY", .absolute, ⟨3, 4, 0⟩, true⟩,
   ⟨"LDA", .absolute, ⟨3, 4, 0⟩, true⟩,
   ⟨"LDX", .absolute, ⟨3, 4, 0⟩, true⟩,
   ⟨"*lax", .absolute, ⟨3, 4, 0⟩, false⟩]

/-- Rows $B0 to $BF of the opcode table (R150, R153). -/
def opRowsB : List OpRow :=
  [⟨"BCS", .relative, ⟨2, 2, 0⟩, true⟩,
   ⟨"LDA", .indirectIndexed, ⟨2, 5, 1⟩, true⟩,
   ⟨"*kil", .implied, ⟨1, 2, 0⟩, false⟩,
   ⟨"*lax", .indirectIndexed, ⟨2, 5, 1⟩, false⟩,
   ⟨"LDY", .zeroPageX, ⟨2, 4, 0⟩, true⟩,
   ⟨"LDA", .zeroPageX, ⟨2, 4, 0⟩, true⟩,
   ⟨"LDX", .zeroPageY, ⟨2, 4, 0⟩, true⟩,
   ⟨"*lax", .zeroPageY, ⟨2, 4, 0⟩, false⟩,
   ⟨"CLV", .implied, ⟨1, 2, 0⟩, true⟩,
   ⟨"LDA", .absoluteY, ⟨3, 4, 1⟩, true⟩,
   ⟨"TSX", .implied, ⟨1, 2, 0⟩, true⟩,
   ⟨"*las", .absoluteY, ⟨3, 4, 1⟩, false⟩,
   ⟨"LDY", .absoluteX, ⟨3, 4, 1⟩, true⟩,
   ⟨"LDA", .absoluteX, ⟨3, 4, 1⟩, true⟩,
   ⟨"LDX", .absoluteY, ⟨3, 4, 1⟩, true⟩,
   ⟨"*lax", .absoluteY, ⟨3, 4, 1⟩, false⟩]

/-- Rows $C0 to $CF of the opcode table (R150, R153). -/
def opRowsC : List OpRow :=
  [⟨"CPY", .immediate, ⟨2, 2, 0⟩, true⟩,
   ⟨"CMP", .indexedIndirect, ⟨2, 6, 0⟩, true⟩,
   ⟨"*nop", .immediate, ⟨2, 2, 0⟩, false⟩,
   ⟨"*dcp", .indexedIndirect, ⟨2, 8, 0⟩, false⟩,
   ⟨"CPY", .zeroPage, ⟨2, 3, 0⟩, true⟩,
   ⟨"CMP", .zeroPage, ⟨2, 3, 0⟩, true⟩,
   ⟨"DEC", .zeroPage, ⟨2, 5, 0⟩, true⟩,
   ⟨"*dcp", .zeroPage, ⟨2, 5, 0⟩, false⟩,
   ⟨"INY", .implied, ⟨1, 2, 0⟩, true⟩,
   ⟨"CMP", .immediate, ⟨2, 2, 0⟩, true⟩,
   ⟨"DEX", .implied, ⟨1, 2, 0⟩, true⟩,
   ⟨"*axs", .immediate, ⟨2, 2, 0⟩, false⟩,
   ⟨"CPY", .absolute, ⟨3, 4, 0⟩, true⟩,
   ⟨"CMP", .absolute, ⟨3, 4, 0⟩, true⟩,
   ⟨"DEC", .absolute, ⟨3, 6, 0⟩, true⟩,
   ⟨"*dcp", .absolute, ⟨3, 6, 0⟩, false⟩]

/-- Rows $D0 to $DF of the opcode table (R150, R153). -/
def opRowsD : List OpRow :=
  [⟨"BNE", .relative, ⟨2, 2, 0⟩, true⟩,
   ⟨"CMP", .indirectIndexed, ⟨2, 5, 1⟩, true⟩,
   ⟨"*kil", .implied, ⟨1, 2, 0⟩, false⟩,
   ⟨"*dcp", .indirectIndexed, ⟨2, 8, 0⟩, false⟩,
   ⟨"*nop", .zeroPageX, ⟨2, 4, 0⟩, false⟩,
   ⟨"CMP", .zeroPageX, ⟨2, 4, 0⟩, true⟩,
   ⟨"DEC", .zeroPageX, ⟨2, 6, 0⟩, true⟩,
   ⟨"*dcp", .zeroPageX, ⟨2, 6, 0⟩, false⟩,
   ⟨"CLD", .implied, ⟨1, 2, 0⟩, true⟩,
   ⟨"CMP", .absoluteY, ⟨3, 4, 1⟩, true⟩,
   ⟨"*nop", .implied, ⟨1, 2, 0⟩, false⟩,
   ⟨"*dcp", .absoluteY, ⟨3, 7, 0⟩, false⟩,
   ⟨"*nop", .absoluteX, ⟨3, 4, 1⟩, false⟩,
   ⟨"CMP", .absoluteX, ⟨3, 4, 1⟩, true⟩,
   ⟨"DEC", .absoluteX, ⟨3, 7, 0⟩, true⟩,
   ⟨"*dcp", .absoluteX, ⟨3, 7, 0⟩, false⟩]

/-- Rows $E0 to $EF of the opcode table (R150, R153). -/
def opRowsE : List OpRow :=
  [⟨"CPX", .immediate, ⟨2, 2, 0⟩, true⟩,
   ⟨"SBC", .indexedIndirect, ⟨2, 6, 0⟩, true⟩,
   ⟨"*nop", .immediate, ⟨2, 2, 0⟩, false⟩,
   ⟨"*isc", .indexedIndirect, ⟨2, 8, 0⟩, false⟩,
   ⟨"CPX", .zeroPage, ⟨2, 3, 0⟩, true⟩,
   ⟨"SBC", .zeroPage, ⟨2, 3, 0⟩, true⟩,
   ⟨"INC", .zeroPage, ⟨2, 5, 0⟩, true⟩,
   ⟨"*isc", .zeroPage, ⟨2, 5, 0⟩, false⟩,
   ⟨"INX", .implied, ⟨1, 2, 0⟩, true⟩,
   ⟨"SBC", .immediate, ⟨2, 2, 0⟩, true⟩,
   ⟨"NOP", .implied, ⟨1, 2, 0⟩, true⟩,
   ⟨"*sbc", .immediate, ⟨2, 2, 0⟩, false⟩,
   ⟨"CPX", .absolute, ⟨3, 4, 0⟩, true⟩,
   ⟨"SBC", .absolute, ⟨3, 4, 0⟩, true⟩,
   ⟨"INC", .absolute, ⟨3, 6, 0⟩, true⟩,
   ⟨"*isc", .absolute, ⟨3, 6, 0⟩, false⟩]

/-- Rows $F0 to $FF of the opcode table (R150, R153). -/
def opRowsF : List OpRow :=
  [⟨"BEQ", .relative, ⟨2, 2, 0⟩, true⟩,
   ⟨"SBC", .indirectIndexed, ⟨2, 5, 1⟩, true⟩,
   ⟨"*kil", .implied, ⟨1, 2, 0⟩, false⟩,
   ⟨"*isc", .indirectIndexed, ⟨2, 8, 0⟩, false⟩,
   ⟨"*nop", .zeroPageX, ⟨2, 4, 0⟩, false⟩,
   ⟨"SBC", .zeroPageX, ⟨2, 4, 0⟩, true⟩,
   ⟨"INC", .zeroPageX, ⟨2, 6, 0⟩, true⟩,
   ⟨"*isc", .zeroPageX, ⟨2, 6, 0⟩, false⟩,
   ⟨"SED", .implied, ⟨1, 2, 0⟩, true⟩,
   ⟨"SBC", .absoluteY, ⟨3, 4, 1⟩, true⟩,
   ⟨"*nop", .implied, ⟨1, 2, 0⟩, false⟩,
   ⟨"*isc", .absoluteY, ⟨3, 7, 0⟩, false⟩,
   ⟨"*nop", .absoluteX, ⟨3, 4, 1⟩, false⟩,
   ⟨"SBC", .absoluteX, ⟨3, 4, 1⟩, true⟩,
   ⟨"INC", .absoluteX, ⟨3, 7, 0⟩, true⟩,
   ⟨"*isc", .absoluteX, ⟨3, 7, 0⟩, false⟩]

/-- The opcode table (R150, R153). -/
def opTable : List OpRow :=
  opRows0 ++ opRows1 ++ opRows2 ++ opRows3 ++
  opRows4 ++ opRows5 ++ opRows6 ++ opRows7 ++
  opRows8 ++ opRows9 ++ opRowsA ++ opRowsB ++
  opRowsC ++ opRowsD ++ opRowsE ++ opRowsF

theorem opTable_length : opTable.length = 256 := by
  simp only [opTable, List.length_append]
  rfl

/-- The opcode table's row of an opcode byte (R141). -/
def opRow (op : Byte) : OpRow := opTable[op.toNat]'(by rw [opTable_length]; exact op.isLt)

/-- The opcode byte of an instruction. -/
def Instr.opcode (i : Instr) : Byte := (encode i).headD 0

/-- The operand of an instruction as one word: its operand byte or word, and 0 where it has none. -/
def Instr.operand (i : Instr) : Word :=
  match encode i with
  | [_, b] => zext16 b
  | [_, lo, hi] => wordOf hi lo
  | _ => 0

end Sys2Proof
end

