-- ==== Sys2Proof/Machine/Fetch.lean ====
section
/-! DEFINITION. Fetching an instruction through the bus (spec/30_encoding.md R141, R143, R155), and placing one
where the next fetch finds it. -/

namespace Sys2Proof.Machine

/-- How many of the operand bytes an instruction carries the fetch reads (R143, R144): those of its mode, BRK's
being Implied (R155); for an undocumented opcode those its ILLEGAL_TABLE mode reads (R300, R302), of
which its meaning makes any that the instruction does not carry (log entry 2). -/
def fetchedBytes (p : Params) (op : Byte) : Nat :=
  let row := opRow op
  if row.documented then operandBytes row.mode
  else min (operandReads (illegalEntry p op ⟨row.mode, row.cost⟩).mode) (operandBytes row.mode)

/-- The opcode fetch, then the operand bytes the mode or the handler reads, low byte first (R79, R143). A byte
the machine does not read is looked at without an access, to name the instruction (log entry 13).
An Immediate operand is read here; the rule reads it in the handler, with no access between (R147,
log entry 12). -/
def fetch (s : State) : Instr × State :=
  let op := memRead s.cpu.pc s
  let b1 := memRead (s.cpu.pc + 1) op.2
  let b2 := memRead (s.cpu.pc + 2) b1.2
  ((opForm op.1).instr b1.1 b2.1,
    match fetchedBytes s.params op.1 with
    | 0 => op.2
    | 1 => b1.2
    | _ => b2.2)

/-- The three bytes at PC as successive reads find them. -/
def codeBytes (s : State) : List Byte :=
  let b0 := memRead s.cpu.pc s
  let b1 := memRead (s.cpu.pc + 1) b0.2
  let b2 := memRead (s.cpu.pc + 2) b1.2
  [b0.1, b1.1, b2.1]

/-- Does a read at `a` come from a store that can hold a byte of code? -/
def holdsCode (sw : Switches) (a : Word) : Bool :=
  match readPlace sw a.toNat with
  | .ram _ _ => true
  | .sysRom _ => true
  | .bootProm _ => true
  | .softSwitch => false
  | .nothing => false

/-- Put a byte where a read at `a` finds it: into RAM, or into a ROM image of the parameters. -/
def placeByte (a : Word) (v : Byte) (s : State) : State :=
  match readPlace s.sw a.toNat with
  | .ram bank off => ramWrite s bank off v
  | .sysRom off => { s with params := { s.params with sysRom := Cells.write zeroByte off v s.params.sysRom } }
  | .bootProm off => { s with params := { s.params with bootProm := Cells.write zeroByte off v s.params.bootProm } }
  | .softSwitch => s
  | .nothing => s

/-- The state whose next step runs the instruction with bytes b0, b1, b2: the bytes stand at PC, and no host
event is due before the next tick. Where the bytes at PC come from no store (the soft-switch page, the
empty slot ROM), PC is moved to $0300 first (log entry 19). -/
def placeInstruction (b0 b1 b2 : Byte) (s : State) : State :=
  let stored := holdsCode s.sw s.cpu.pc && holdsCode s.sw (s.cpu.pc + 1) && holdsCode s.sw (s.cpu.pc + 2)
  let s := if stored then s else { s with cpu := { s.cpu with pc := 0x0300 } }
  let s := placeByte (s.cpu.pc + 2) b2 (placeByte (s.cpu.pc + 1) b1 (placeByte s.cpu.pc b0 s))
  { s with
    host :=
      { s.host with
        schedule :=
          match s.host.schedule with
          | [] => []
          | _ :: rest => [] :: rest } }

/-- The cycles of the tick that led from cycle count `c0` to state `t` (R141). -/
def cyclesSince (c0 : BitVec 64) (t : State) : Nat := (t.cpu.cycleCount - c0).toNat

end Sys2Proof.Machine
end

