-- ==== Sys2Proof/Machine/Reset.lean ====
section
/-! DEFINITION. Power-on and Reset (spec/70_reset_and_hazards.md R540 to R546). -/

namespace Sys2Proof.Machine

/-- Memory-controller reset (R542): the switches and `preWrite`; RAM and KBD are not changed. -/
def resetMemoryController (s : State) : State := { s with sw := Switches.atReset }

/-- Disk-controller reset (R543): `phase`, `track`, `pos` and the diskettes keep their values. -/
def resetDiskController (s : State) : State :=
  { s with
    disk := { s.disk with dataLatch := 0, q6 := false, q7 := false, drive2 := false, motorOn := false }
    bus := { s.bus with fastMode := false } }

/-- Bus reset (R75). -/
def resetBus (s : State) : State :=
  resetDiskController (resetMemoryController { s with bus := { s.bus with fastMode := false } })

/-- `Reset()` (R540): the registers, then the vector read under the mapping as it stands (R546), then the bus. -/
def resetProcedure (s : State) : State :=
  let t := { s with cpu := { s.cpu with a := 0, x := 0, y := 0, p := 0x24, sp := 0xFD } }
  let r := memRead16 resetVector t
  resetBus { r.2 with cpu := { r.2.cpu with pc := r.1 } }

/-- The four mirrors at unspecified levels (R42): four free values. -/
def freeMirrors (s : State) : State :=
  { s with
    mirrors :=
      { vblank := Config.freeMirror s.freeCount
        openApple := Config.freeMirror (s.freeCount + 1)
        filledApple := Config.freeMirror (s.freeCount + 2)
        shift := Config.freeMirror (s.freeCount + 3) }
    freeCount := s.freeCount + 4 }

/-- Ctrl-Reset (R541, R544): Reset, after which the mirrors are unspecified until next driven. -/
def warmReset (s : State) : State := freeMirrors (resetProcedure s)

/-- The assembled machine before its first Reset (R545, R36): PC is about to be loaded, and `al`, which no
rule gives a power-on value, is 0 (log entry 9). -/
def powerOn (p : Params) : State where
  cpu :=
    { a := 0, x := 0, y := 0, sp := 0xFD, p := 0x24, pc := 0, al := 0, cycleCount := 0
      irq := false, nmi := false }
  bus := { addr := 0, data := 0, rw := .read, fastMode := false }
  main := []
  aux := []
  kbd := 0
  sw := Switches.atReset
  mirrors := { vblank := false, openApple := false, filledApple := false, shift := false }
  disk := Disk.atPowerOn
  seq := { frameCycles := 0, running := false }
  host := { schedule := [], draws := [], controlHeld := false, colorEnabled := true, monoColor := 12 }
  params := p
  freeCount := 0

end Sys2Proof.Machine
end

