-- ==== Sys2Proof/Machine/HostEvents.lean ====
section
/-! DEFINITION. The host's events, applied between ticks (spec/60_exceptions.md R515). -/

namespace Sys2Proof.Machine

/-- `key_down(ascii7)`: the key is taken if the key-ready bit is clear, and lost if it is set (R515). -/
def keyDown (ascii : BitVec 7) (s : State) : State :=
  if s.kbd.getLsbD 7 then s else { s with kbd := ascii.setWidth 8 ||| 0x80 }

/-- The code a named key sends (R515). -/
def NamedKey.code : NamedKey → BitVec 7
  | .left => 0x08
  | .right => 0x15
  | .up => 0x0B
  | .down => 0x0A
  | .escape => 0x1B
  | .return => 0x0D
  | .delete => 0x7F

/-- A modifier key drives its mirror flag (R42, R515). -/
def driveModifier (key : Modifier) (pressed : Bool) (m : Mirrors) : Mirrors :=
  match key with
  | .shift => { m with shift := pressed }
  | .openApple => { m with openApple := pressed }
  | .filledApple => { m with filledApple := pressed }

/-- Put a diskette in a drive or take it out: nothing else of the controller changes (R416). -/
def setDrive (inDrive2 : Bool) (img : Option DiskImage) (s : State) : State :=
  { s with disk := if inDrive2 then { s.disk with disk2 := img } else { s.disk with disk1 := img } }

/-- One host event (R515). An image of another size is rejected: no diskette is inserted (R416, R429). -/
def hostEvent (e : HostEvent) (s : State) : State :=
  match e with
  | .keyDown ascii => keyDown ascii s
  | .printableKey code => keyDown ((code &&& 0x7F).setWidth 7) s
  | .namedKey key => keyDown key.code s
  | .modifierKey key pressed => { s with mirrors := driveModifier key pressed s.mirrors }
  | .controlKey pressed => { s with host := { s.host with controlHeld := pressed } }
  | .resetKey => if s.host.controlHeld then warmReset s else s
  | .insertDisk inDrive2 img => if img.wf then setDrive inDrive2 (some img) s else s
  | .ejectDisk inDrive2 => setDrive inDrive2 none s
  | .setColor enabled => { s with host := { s.host with colorEnabled := enabled } }
  | .setMonoColor index => { s with host := { s.host with monoColor := index } }

/-- Several events, in the order given. -/
def hostEvents (es : List HostEvent) (s : State) : State := es.foldl (fun t e => hostEvent e t) s

/-- The events due before the next tick are taken off the schedule and applied (R515, log entry 4). -/
def deliverEvents (s : State) : State :=
  match s.host.schedule with
  | [] => s
  | es :: rest => hostEvents es { s with host := { s.host with schedule := rest } }

end Sys2Proof.Machine
end

