-- ==== Sys2Proof/Machine/Video.lean ====
section
/-! DEFINITION. The video hand-off and the artifact-colour rasterizer (spec/47_video_rasterizer.md R450 to
R471): a pure function from the hand-off tuple to a 560 x 384 picture. A palette index is a
`BitVec 4`, so every index is in 0..15 (R472). -/

namespace Sys2Proof.Machine

/-- The hand-off tuple (R451). -/
structure Gpu where
  primary : Memory
  secondary : Memory
  startAddr : Nat
  text : Bool
  hires : Bool
  vid80 : Bool
  mixed : Bool
  dblHires : Bool
deriving DecidableEq, Repr

/-- What the rasterizer is told besides the tuple: its constants (R45) and the host settings (R470). -/
structure RenderSettings where
  charRom : Cells
  palette : List Rgba
  dhrFrom : List (BitVec 16)
  dhrTo : List (BitVec 16)
  colorEnabled : Bool
  monoColor : BitVec 4
deriving DecidableEq, Repr

/-- `start_addr` (R452). -/
def startAddr (sw : Switches) : Nat :=
  let p2 := sw.page2 && !sw.store80
  if sw.text then (if p2 then 0x0800 else 0x0400)
  else if sw.hires then (if p2 then 0x4000 else 0x2000)
  else 0x0400

/-- Are the two arrays exchanged (R453)? -/
def exchanged (sw : Switches) : Bool := !sw.vid80 && (!sw.rdMain || (sw.page2 && sw.store80))

/-- `gpu_memory()` (R451 to R453). It changes no state. -/
def gpuMemory (s : State) : Gpu where
  primary := if exchanged s.sw then s.aux else s.main
  secondary := if exchanged s.sw then s.main else s.aux
  startAddr := startAddr s.sw
  text := s.sw.text
  hires := s.sw.hires
  vid80 := s.sw.vid80
  mixed := s.sw.mixed
  dblHires := s.sw.dblHires

/-- The settings a state supplies (R45, R470). -/
def renderSettings (s : State) : RenderSettings where
  charRom := s.params.charRom
  palette := s.params.palette
  dhrFrom := s.params.dhrFrom
  dhrTo := s.params.dhrTo
  colorEnabled := s.host.colorEnabled
  monoColor := s.host.monoColor

/-- `ROW[r]` (R455). -/
def rowOffset (r : Nat) : Nat := r % 8 * 0x80 + r / 8 * 0x28

/-- The six display modes of the coarse switch (R456). -/
inductive DisplayMode where
  | text40
  | text80
  | lores40
  | lores80
  | hires40
  | doubleHires
deriving DecidableEq, Repr

/-- The coarse switch for text row `r` (R456). -/
def displayMode (g : Gpu) (r : Nat) : DisplayMode :=
  if g.text || (g.mixed && decide (20 ≤ r)) then (if g.vid80 then .text80 else .text40)
  else if g.hires then (if g.vid80 && g.dblHires then .doubleHires else .hires40)
  else if g.vid80 then .lores80
  else .lores40

/-- The base of the text rows: rewound by $1C00 in mixed hi-res (R469). -/
def textBase (g : Gpu) : Nat := if !g.text && g.hires then g.startAddr - 0x1C00 else g.startAddr

/-- The colour of a lit text dot (R459, R470). -/
def textColor (rs : RenderSettings) : BitVec 4 := if rs.colorEnabled then 15 else rs.monoColor

/-- Dot `i` of sub-line `k` of glyph `g` is lit where the ROM bit is 0 (R459, R461). -/
def glyphDot (rs : RenderSettings) (g : Byte) (k i : Nat) : BitVec 4 :=
  if (romRead rs.charRom (g.toNat * 8 + k)).getLsbD i then 0 else textColor rs

/-- TEXT40 (R459): output column `x` of display line `line`. -/
def text40Pixel (rs : RenderSettings) (g : Gpu) (line x : Nat) : BitVec 4 :=
  glyphDot rs (g.primary.read (textBase g + rowOffset (line / 8) + x / 14)) (line % 8) (x % 14 / 2)

/-- TEXT80 (R460): the main byte on the left, the auxiliary byte on the right. -/
def text80Pixel (rs : RenderSettings) (g : Gpu) (line x : Nat) : BitVec 4 :=
  let a := textBase g + rowOffset (line / 8) + x / 14
  if x % 14 < 7 then glyphDot rs (g.primary.read a) (line % 8) (x % 14)
  else glyphDot rs (g.secondary.read a) (line % 8) (x % 14 - 7)

/-- The nibble of a lo-res byte: the lower one in the top half of its text row (R463). -/
def loresNibble (b : Byte) (line : Nat) : BitVec 4 := if line % 8 < 4 then b.extractLsb' 0 4 else b.extractLsb' 4 4

/-- LORES40 (R463). -/
def lores40Pixel (g : Gpu) (line x : Nat) : BitVec 4 :=
  loresNibble (g.primary.read (g.startAddr + rowOffset (line / 8) + x / 14)) line

/-- LORES80 (R464). -/
def lores80Pixel (g : Gpu) (line x : Nat) : BitVec 4 :=
  let a := g.startAddr + rowOffset (line / 8) + x / 14
  loresNibble (if x % 14 < 7 then g.primary.read a else g.secondary.read a) line

/-- The address of column 0 of a hi-res display line (R455). -/
def hiresLineAddr (g : Gpu) (line : Nat) : Nat := g.startAddr + rowOffset (line / 8) + line % 8 * 0x400

/-- The byte that holds hi-res dot `d` of a line (R465). -/
def hiresByte (g : Gpu) (line d : Nat) : Byte := g.primary.read (hiresLineAddr g line + d / 7)

/-- Is hi-res dot `d` lit (R465)? No dot beyond 279 is (R466). -/
def hiresLit (g : Gpu) (line d : Nat) : Bool := decide (d < 280) && (hiresByte g line d).getLsbD (d % 7)

/-- Is the left neighbour of dot `d` lit? There is none left of dot 0 (R466). -/
def hiresLitLeft (g : Gpu) (line d : Nat) : Bool := decide (0 < d) && hiresLit g line (d - 1)

/-- The artifact colour of dot `d` (R466), or the monochrome colour (R470). -/
def hiresColor (rs : RenderSettings) (g : Gpu) (line d : Nat) : BitVec 4 :=
  let delayed := (hiresByte g line d).getLsbD 7
  if !hiresLit g line d then 0
  else if !rs.colorEnabled then rs.monoColor
  else if hiresLitLeft g line d || hiresLit g line (d + 1) then 15
  else if d % 2 = 1 then (if delayed then 9 else 12)
  else if delayed then 6
  else 3

/-- HIRES40 (R465, R466): dot d covers output columns 2d and 2d + 1. -/
def hires40Pixel (rs : RenderSettings) (g : Gpu) (line x : Nat) : BitVec 4 := hiresColor rs g line (x / 2)

/-- Bit `x` of the 560-bit double-hi-res stream of a line (R467). -/
def dhrBit (g : Gpu) (line x : Nat) : Bool :=
  let a := hiresLineAddr g line + x / 14
  if x % 14 < 7 then (g.secondary.read a).getLsbD (x % 14) else (g.primary.read a).getLsbD (x % 14 - 7)

/-- `cur(j)`, the colour index of block `j`, its first stream bit least significant (R467). -/
def dhrBlock (g : Gpu) (line j : Nat) : BitVec 4 :=
  BitVec.ofBool (dhrBit g line (4 * j + 3)) ++ BitVec.ofBool (dhrBit g line (4 * j + 2)) ++
    BitVec.ofBool (dhrBit g line (4 * j + 1)) ++ BitVec.ofBool (dhrBit g line (4 * j))

/-- `H2L`: from a hi-res colour index to a palette index (R458). -/
def hiresToLores (h : BitVec 4) : BitVec 4 :=
  ([0, 1, 8, 9, 4, 5, 12, 13, 2, 3, 10, 11, 6, 7, 14, 15] : List (BitVec 4)).getD h.toNat 0

/-- An entry of a 16 x 16 double-hi-res table, held row by row (R6, R468). -/
def dhrEntry (table : List (BitVec 16)) (row col : BitVec 4) : BitVec 16 := table.getD (row.toNat * 16 + col.toNat) 0

/-- DHR (R468): output column 4j + p takes nibble 3 - p of the combined table value. -/
def dhrPixel (rs : RenderSettings) (g : Gpu) (line x : Nat) : BitVec 4 :=
  let j := x / 4
  let cur := dhrBlock g line j
  let prev := if j = 0 then 0 else dhrBlock g line (j - 1)
  let next := if j = 139 then 0 else dhrBlock g line (j + 1)
  let v := dhrEntry rs.dhrFrom cur prev ||| dhrEntry rs.dhrTo cur next
  hiresToLores (v.extractLsb' (4 * (3 - x % 4)) 4)

/-- Output column `x` of display line `line`, 0..191 (R454, R456). -/
def linePixel (rs : RenderSettings) (g : Gpu) (line x : Nat) : BitVec 4 :=
  match displayMode g (line / 8) with
  | .text40 => text40Pixel rs g line x
  | .text80 => text80Pixel rs g line x
  | .lores40 => lores40Pixel g line x
  | .lores80 => lores80Pixel g line x
  | .hires40 => hires40Pixel rs g line x
  | .doubleHires => dhrPixel rs g line x

/-- `I[y][x]`: each display line is drawn twice (R450, R454). -/
def paletteIndex (rs : RenderSettings) (g : Gpu) (y x : Nat) : BitVec 4 := linePixel rs g (y / 2) x

/-- `F[y][x] = PALETTE[I[y][x]]` (R450). -/
def pixel (rs : RenderSettings) (g : Gpu) (y x : Nat) : Rgba :=
  rs.palette.getD (paletteIndex rs g y x).toNat ⟨0, 0, 0, 0⟩

/-- `Render(G)`: 384 rows, top to bottom, of 560 pixels, left to right (R450). -/
def render (rs : RenderSettings) (g : Gpu) : List (List Rgba) :=
  (List.range 384).map fun y => (List.range 560).map fun x => pixel rs g y x

end Sys2Proof.Machine
end

