-- ==== Sys2Proof/Machine/Sequencer.lean ====
section
/-! DEFINITION. The frame sequencer, which acts between ticks (spec/60_exceptions.md R510 to R512). -/

namespace Sys2Proof.Machine

/-- Start of run, performed once, before the first tick (R510). -/
def startOfRun (s : State) : State :=
  if s.seq.running then s
  else { s with seq := { frameCycles := 0, running := true }, mirrors := { s.mirrors with vblank := true } }

/-- The per-frame count after a tick of `n` cycles, before a frame end restarts it (R510). -/
def frameCount (n : Nat) (s : State) : Nat := s.seq.frameCycles + n

/-- Does a tick of `n` cycles end the frame (R510)? -/
def frameEnds (n : Nat) (s : State) : Bool := decide (Config.frameLength ≤ frameCount n s)

/-- After a tick that returned `n` cycles (R510). -/
def afterTick (n : Nat) (s : State) : State :=
  let c := frameCount n s
  if frameEnds n s then
    { s with seq := { s.seq with frameCycles := 0 }, mirrors := { s.mirrors with vblank := true } }
  else
    { s with
      seq := { s.seq with frameCycles := c }
      mirrors := { s.mirrors with vblank := if Config.vblankEnd ≤ c then false else s.mirrors.vblank } }

/-- The picture the sequencer hands to the external renderer after a tick of `n` cycles, if it hands one
(R510, R512): at a frame end, unless `fast_mode` is set. It is an output and changes no state. -/
def deliveredFrame (n : Nat) (s : State) : Option (List (List Rgba)) :=
  if frameEnds n s && !s.bus.fastMode then some (render (renderSettings s) (gpuMemory s)) else none

/-- May the host pace to real time after this tick (R513)? An output: wall-clock time is outside the machine. -/
def mayPace (n : Nat) (s : State) : Bool := frameEnds n s && !s.bus.fastMode

/-- `cycle_count()`, which only the host and the sequencer read (R33, R514, R516). -/
def hostCycleCount (s : State) : Nat := s.cpu.cycleCount.toNat

end Sys2Proof.Machine
end

