-- ==== Sys2Proof/Machine/Step.lean ====
section
/-! DEFINITION. One step of the machine: what the sequencer and the host do before the tick, the tick
(spec/30_encoding.md R141), and what the sequencer does after it (spec/60_exceptions.md R510). -/

namespace Sys2Proof.Machine

/-- Between ticks, before the next one: the start of run, once, then the host events due (R510, R515). -/
def beforeTick (s : State) : State := deliverEvents (startOfRun s)

/-- One tick: fetch, decode and execute exactly one instruction (R10, R141). -/
def tick (s : State) : Host.Outcome State Fault Refusal := exec (fetch s).1 (fetch s).2

/-- One step. -/
def step (s : State) : Host.Outcome State Fault Refusal :=
  match tick (beforeTick s) with
  | .next t => .next (afterTick (cyclesSince (beforeTick s).cpu.cycleCount t) t)
  | .fault r => .fault r
  | .refused r => .refused r

/-- The picture the step delivers, if it delivers one (R512): an output. -/
def stepFrame (s : State) : Option (List (List Rgba)) :=
  match tick (beforeTick s) with
  | .next t => deliveredFrame (cyclesSince (beforeTick s).cpu.cycleCount t) t
  | .fault _ => none
  | .refused _ => none

/-- `s` with the instruction whose bytes `w` numbers (byte 0 least significant, bits above `nbits` zero) stored
where the next step fetches it. -/
def State.withFetchWord (s : State) (nbits w : Nat) : State :=
  let v := w % 2 ^ nbits
  placeInstruction (byteAt v 0) (byteAt v 1) (byteAt v 2) s

end Sys2Proof.Machine
end

