-- ==== Sys2Proof/Machine/Assembly.lean ====
section
/-! DEFINITION. The assembler notation of spec/30_encoding.md R157: an instruction printed from its opcode-table
row. Nothing of the machine depends on it. -/

namespace Sys2Proof.Machine

/-- One hexadecimal digit. -/
def hexDigit (n : Nat) : String := ["0", "1", "2", "3", "4", "5", "6", "7", "8", "9", "A", "B", "C", "D", "E", "F"].getD n ""

/-- `$nn` (R157). -/
def hexByte (b : Byte) : String := "$" ++ hexDigit (b.toNat / 16) ++ hexDigit (b.toNat % 16)

/-- `$nnnn` (R157). -/
def hexWord (w : Word) : String :=
  "$" ++ hexDigit (w.toNat / 4096) ++ hexDigit (w.toNat / 256 % 16) ++ hexDigit (w.toNat / 16 % 16) ++ hexDigit (w.toNat % 16)

/-- A branch target as a distance from the branch's own address: `*-3` for offset $FB (R157). -/
def branchTarget (offset : Byte) : String :=
  let d := offset.toInt + 2
  if d < 0 then "*-" ++ toString d.natAbs else "*+" ++ toString d.natAbs

/-- The operand's shape in each mode, for an operand word (R157); an operand byte is its low byte. -/
def operandSyntax (m : Mode) (operand : Word) : String :=
  let b := loByte operand
  match m with
  | .implied => ""
  | .accumulator => " A"
  | .immediate => " #" ++ hexByte b
  | .zeroPage => " " ++ hexByte b
  | .zeroPageX => " " ++ hexByte b ++ ",X"
  | .zeroPageY => " " ++ hexByte b ++ ",Y"
  | .absolute => " " ++ hexWord operand
  | .absoluteX => " " ++ hexWord operand ++ ",X"
  | .absoluteY => " " ++ hexWord operand ++ ",Y"
  | .indirect => " (" ++ hexWord operand ++ ")"
  | .indexedIndirect => " (" ++ hexByte b ++ ",X)"
  | .indirectIndexed => " (" ++ hexByte b ++ "),Y"
  | .relative => " " ++ branchTarget b

/-- An instruction in assembler notation. BRK is written without its signature byte (R158). -/
def assembly (i : Instr) : String := (opRow i.opcode).mnemonic ++ operandSyntax (opRow i.opcode).mode i.operand

end Sys2Proof.Machine
end

