-- ==== Sys2Proof/WellFormed.lean ====
section
/-! DEFINITION. The checks on what is supplied to the machine. An instruction needs none beyond its type: all
256 opcodes and every operand value are legal (spec/30_encoding.md R154), and the operand widths are the
types'. The parameters of spec/00_scope.md R6 have sizes, and an ILLEGAL_TABLE entry has a legal size. -/

namespace Sys2Proof

open Sys2Proof.Machine

/-- Every term of `Instr` is an instruction of the machine (R140, R154). -/
def Instr.wellFormed (_ : Instr) : Bool := true

/-- A SIZE entry is 1, 2 or 3, never 0 (R156, R302). -/
def OpCost.wellFormed (c : OpCost) : Bool := decide (1 ≤ c.size) && decide (c.size ≤ 3)

/-- The parameters have the sizes of R5 and R6, and the sparse images are in canonical form. -/
def Params.wellFormed (p : Params) : Bool :=
  Cells.wf zeroByte 16384 p.sysRom && Cells.wf zeroByte 256 p.bootProm && Cells.wf zeroByte 4096 p.charRom &&
    decide (p.palette.length = 16) && decide (p.dhrFrom.length = 256) && decide (p.dhrTo.length = 256) &&
    p.illegalTable.all fun e => e.2.cost.wellFormed

end Sys2Proof
end

