-- ==== Sys2Proof/Safety.lean ====
section
/-! DEFINITION. The terms claims use: what a good state is, what a bus access may change, where a store
lands, and what it is for a step to complete. -/

namespace Sys2Proof.Machine

/-- The step answers a next state. -/
def Completes (s : State) : Prop := ∃ t, step s = .next t

/-- The invariant of the machine: B is clear and Unused set in P (R25, R26), both RAM banks and the inserted
disk images are in canonical form, the per-frame count stays inside a frame (R510), and the parameters
are well formed. -/
structure State.Inv (s : State) : Prop where
  status : s.cpu.p &&& 0x30 = 0x20
  mainWf : s.main.wf = true
  auxWf : s.aux.wf = true
  disk1Wf : ∀ img, s.disk.disk1 = some img → img.wf = true
  disk2Wf : ∀ img, s.disk.disk2 = some img → img.wf = true
  frame : s.seq.frameCycles < Config.frameLength
  paramsWf : s.params.wellFormed = true

/-- Is `a` in the soft-switch page, where every access is an action (R86)? -/
def isIo (a : Word) : Bool := decide (0xC000 ≤ a.toNat) && decide (a.toNat ≤ 0xC0FF)

/-- The byte the bank selection gives a read at `a` outside the soft-switch page (R100). -/
def mappedByte (s : State) (a : Word) : Byte :=
  match readPlace s.sw a.toNat with
  | .ram bank off => ramRead s bank off
  | .sysRom off => romRead s.params.sysRom off
  | .bootProm off => romRead s.params.bootProm off
  | .softSwitch => 0
  | .nothing => 0

/-- Where a write at `a` lands, if it lands in RAM: the bank and the offset (R101). -/
def storedAt (s : State) (a : Word) : Option (Bank × Nat) :=
  match writePlace s.sw a.toNat with
  | .ram bank off => some (bank, off)
  | .sysRom _ => none
  | .bootProm _ => none
  | .softSwitch => none
  | .nothing => none

/-- Every byte of both RAM banks is as it was. -/
def SameRam (s t : State) : Prop := ∀ bank off, ramRead t bank off = ramRead s bank off

/-- Every byte of both RAM banks is as it was but the one at `place`, which holds `v`. -/
def RamStored (place : Option (Bank × Nat)) (v : Byte) (s t : State) : Prop :=
  ∀ bank off, ramRead t bank off = if place = some (bank, off) then v else ramRead s bank off

/-- What no bus access changes: the CPU's registers, the input mirrors, the sequencer, the parameters, the
diskettes, and the host's side apart from the draws. -/
structure BusFrame (s t : State) : Prop where
  cpu : t.cpu = s.cpu
  mirrors : t.mirrors = s.mirrors
  seq : t.seq = s.seq
  params : t.params = s.params
  freeCount : t.freeCount = s.freeCount
  disk1 : t.disk.disk1 = s.disk.disk1
  disk2 : t.disk.disk2 = s.disk.disk2
  schedule : t.host.schedule = s.host.schedule
  controlHeld : t.host.controlHeld = s.host.controlHeld
  colorEnabled : t.host.colorEnabled = s.host.colorEnabled
  monoColor : t.host.monoColor = s.host.monoColor

/-- What no instruction changes outside the CPU and RAM: `BusFrame` without the CPU. -/
def SameSurroundings (s t : State) : Prop := BusFrame s { t with cpu := s.cpu }

/-- The state `s` with nothing but the bus lines changed, as an access at `a` leaves them. -/
def withBus (s : State) (a : Word) (v : Byte) (rw : Rw) : State :=
  { s with bus := { s.bus with addr := a, data := v, rw := rw } }

/-- A flag of P is as it was. -/
def SameFlags (fs : List Flag) (s t : State) : Prop := ∀ f ∈ fs, getFlag t.cpu.p f = getFlag s.cpu.p f

/-- One form of an instruction: the instruction, its addressing mode, its table row and its operand word. -/
structure Shape where
  instr : Instr
  mode : Mode
  cost : OpCost
  operand : Word
deriving DecidableEq, Repr

/-- The state a form's operation starts from (R141): operand resolved, PC advanced, cycles counted. -/
def Shape.ready (f : Shape) (s : State) : State := prepare f.mode f.cost f.operand s

/-- The operand read of a form whose operation reads memory: the byte and the state after (R148). -/
def Shape.read (f : Shape) (s : State) : Byte × State := memRead (f.ready s).cpu.al (f.ready s)

/-- The state an Immediate form's operation starts from: two bytes, two cycles (R150). -/
def immediateReady (s : State) : State := prepare .immediate ⟨2, 2, 0⟩ 0 s

/-- The state a one-byte register instruction's operation starts from: two cycles (R150). -/
def oneByteReady (s : State) : State := prepare .implied ⟨1, 2, 0⟩ 0 s

/-- `s` with other CPU registers. -/
def withCpu (s : State) (c : Cpu) : State := { s with cpu := c }

/-- The four byte registers an instruction can name. -/
inductive Reg where
  | A
  | X
  | Y
  | SP
deriving DecidableEq, Repr

/-- A register's value. -/
def Reg.get (c : Cpu) : Reg → Byte
  | .A => c.a
  | .X => c.x
  | .Y => c.y
  | .SP => c.sp

/-- The named registers, the named flags, the interrupt lines and everything outside the CPU, RAM, the bus and
the devices are as they were. -/
def Leaves (regs : List Reg) (flags : List Flag) (s t : State) : Prop :=
  (∀ r ∈ regs, r.get t.cpu = r.get s.cpu) ∧ SameFlags flags s t ∧ t.cpu.irq = s.cpu.irq ∧ t.cpu.nmi = s.cpu.nmi ∧
    SameSurroundings s t

/-- The soft switches, the keyboard latch, the disk controller, the host's side and fast mode are as they were. -/
def SameDevices (s t : State) : Prop :=
  t.sw = s.sw ∧ t.kbd = s.kbd ∧ t.disk = s.disk ∧ t.host = s.host ∧ t.bus.fastMode = s.bus.fastMode

/-- `t` is `r` with A and P as ADC of `m` leaves them (R223), `c` being the registers before. -/
def AddedWithCarry (m : Byte) (c : Cpu) (r t : State) : Prop :=
  t = withCpu r { c with a := BitVec.ofNat 8 (c.a.toNat + m.toNat + carryIn c.p), p := t.cpu.p } ∧
    getFlag t.cpu.p .C = decide (0xFF < c.a.toNat + m.toNat + carryIn c.p) ∧
    getFlag t.cpu.p .V = (c.a.msb == m.msb && c.a.msb != t.cpu.a.msb) ∧
    getFlag t.cpu.p .N = t.cpu.a.msb ∧ getFlag t.cpu.p .Z = (t.cpu.a == 0) ∧
    ∀ f ∈ [Flag.U, .B, .D, .I], getFlag t.cpu.p f = getFlag c.p f

/-- `t` is `r` with A and P as SBC of `m` leaves them (R224), `c` being the registers before. -/
def SubtractedWithBorrow (m : Byte) (c : Cpu) (r t : State) : Prop :=
  t = withCpu r { c with a := BitVec.ofInt 8 (c.a.toNat - m.toNat - (1 - carryIn c.p)), p := t.cpu.p } ∧
    getFlag t.cpu.p .C = decide (0 ≤ (c.a.toNat : Int) - m.toNat - (1 - carryIn c.p)) ∧
    getFlag t.cpu.p .V = (c.a.msb != m.msb && c.a.msb != t.cpu.a.msb) ∧
    getFlag t.cpu.p .N = t.cpu.a.msb ∧ getFlag t.cpu.p .Z = (t.cpu.a == 0) ∧
    ∀ f ∈ [Flag.U, .B, .D, .I], getFlag t.cpu.p f = getFlag c.p f

/-- `t` is `r` with P as a compare of `reg` with `m` leaves it (R228 to R230), `c` being the registers before. -/
def Compared (reg m : Byte) (c : Cpu) (r t : State) : Prop :=
  t = withCpu r { c with p := t.cpu.p } ∧
    getFlag t.cpu.p .N = (reg - m).msb ∧ getFlag t.cpu.p .Z = decide (reg = m) ∧
    getFlag t.cpu.p .C = decide (m.toNat ≤ reg.toNat) ∧
    ∀ f ∈ [Flag.V, .U, .B, .D, .I], getFlag t.cpu.p f = getFlag c.p f

/-- Left by one: bit 0 takes `fill`, the carry takes bit 7 (R251, R253). -/
def shiftsLeft (v : Byte) (fill : Bool) (r : Byte) (carry : Bool) : Prop :=
  (∀ i < 7, r.getLsbD (i + 1) = v.getLsbD i) ∧ r.getLsbD 0 = fill ∧ carry = v.getLsbD 7

/-- Right by one: bit 7 takes `fill`, the carry takes bit 0 (R252, R254). -/
def shiftsRight (v : Byte) (fill : Bool) (r : Byte) (carry : Bool) : Prop :=
  (∀ i < 7, r.getLsbD i = v.getLsbD (i + 1)) ∧ r.getLsbD 7 = fill ∧ carry = v.getLsbD 0

/-- The new P of a shift: C is the carry out, N and Z are of the result, the rest is as before (R250). -/
def ShiftFlags (r : Byte) (carry : Bool) (p p' : Byte) : Prop :=
  getFlag p' .C = carry ∧ getFlag p' .N = r.msb ∧ getFlag p' .Z = (r == 0) ∧
    ∀ f ∈ [Flag.V, .U, .B, .D, .I], getFlag p' f = getFlag p f

/-- One conditional branch: its instruction, the flag it tests and the value it is taken on (R266 to R273). -/
structure BranchShape where
  instr : Instr
  flag : Flag
  takenOn : Bool
deriving DecidableEq, Repr

/-- The eight conditional branches with offset byte `b`. -/
def Forms.branches (b : Byte) : List BranchShape :=
  [⟨.bcc b, .C, false⟩, ⟨.bcs b, .C, true⟩, ⟨.beq b, .Z, true⟩, ⟨.bne b, .Z, false⟩,
   ⟨.bmi b, .N, true⟩, ⟨.bpl b, .N, false⟩, ⟨.bvc b, .V, false⟩, ⟨.bvs b, .V, true⟩]

/-- A byte of the stack page in the bank MAINZP selects (R27, R90). -/
def stackByte (s : State) (sp : Byte) : Byte := ramRead s (zpBank s.sw) (256 + sp.toNat)

/-- Where a stack byte stands: bank and offset (R27, R90). -/
def stackPlace (s : State) (sp : Byte) : Bank × Nat := (zpBank s.sw, 256 + sp.toNat)

/-- Every byte of both banks but those at the places listed is as it was. -/
def SameRamExcept (places : List (Bank × Nat)) (s t : State) : Prop :=
  ∀ bank off, (bank, off) ∉ places → ramRead t bank off = ramRead s bank off

/-- Every flag of P (R24). -/
def allFlags : List Flag := [.N, .V, .U, .B, .D, .I, .Z, .C]

/-- What every form listed leaves alone when it completes: the registers and flags named, all of RAM, and the
devices unless its data access is in the soft-switch page. -/
def ReadsOnly (forms : List Shape) (regs : List Reg) (flags : List Flag) (s : State) : Prop :=
  ∀ f ∈ forms, ∀ t, exec f.instr s = .next t →
    Leaves regs flags s t ∧ SameRam s t ∧ (isIo (f.ready s).cpu.al = false → SameDevices s t)

/-- What every instruction listed leaves alone when it completes: the registers and flags named, all of RAM but
the places named, and every device. -/
def LeavesAllBut (places : List (Bank × Nat)) (is : List Instr) (regs : List Reg) (flags : List Flag) (s : State) : Prop :=
  ∀ i ∈ is, ∀ t, exec i s = .next t → Leaves regs flags s t ∧ SameRamExcept places s t ∧ SameDevices s t

/-- The form answers the state in which its byte, shifted as `law` says, has been written back and C, N and Z
set (R250). -/
def ShiftedMemory (law : Byte → Byte → Bool → Prop) (f : Shape) (s : State) : Prop :=
  ∃ r carry p,
    exec f.instr s =
      .next (withCpu (memWrite (f.ready s).cpu.al r (f.read s).2) { (f.ready s).cpu with p := p }) ∧
    law (f.read s).1 r carry ∧ ShiftFlags r carry s.cpu.p p

/-- The accumulator form answers the state in which A is shifted as `law` says (R250). -/
def ShiftedA (law : Byte → Byte → Bool → Prop) (i : Instr) (s : State) : Prop :=
  ∃ r carry p,
    exec i s = .next (withCpu (oneByteReady s) { (oneByteReady s).cpu with a := r, p := p }) ∧
    law s.cpu.a r carry ∧ ShiftFlags r carry s.cpu.p p

/-- The opcode-table numbers of an instruction: those of R150, or the ILLEGAL_TABLE entry (R302). -/
def costOf (p : Params) (i : Instr) : OpCost :=
  let row := opRow i.opcode
  if row.documented then row.cost else (illegalEntry p i.opcode ⟨row.mode, row.cost⟩).cost

/-- `s` with the D flag of P at `d` and all else as it is. -/
def withD (d : Bool) (s : State) : State := withCpu s { s.cpu with p := setFlag s.cpu.p .D d }

/-- `s` with other levels on the two interrupt lines. -/
def withLines (irq nmi : Bool) (s : State) : State := withCpu s { s.cpu with irq := irq, nmi := nmi }

/-- The stack and its selection are as in `s`: what may differ is everything else. -/
def SameStack (s t : State) : Prop := SameRam s t ∧ zpBank t.sw = zpBank s.sw ∧ t.cpu.sp = s.cpu.sp

/-- The states a read and a write access at `a` lead to. -/
def accesses (a : Word) (v : Byte) (s : State) : List State := [(memRead a s).2, memWrite a v s]

/-! ### The forms of each instruction (R150, R153) -/

/-- The memory-operand forms of LDA (R150): operand byte `b`, operand word `w`. -/
def Forms.lda (b : Byte) (w : Word) : List Shape :=
  [⟨.ldaZp b, .zeroPage, ⟨2, 3, 0⟩, zext16 b⟩,
   ⟨.ldaZpx b, .zeroPageX, ⟨2, 4, 0⟩, zext16 b⟩,
   ⟨.ldaAbs w, .absolute, ⟨3, 4, 0⟩, w⟩,
   ⟨.ldaAbx w, .absoluteX, ⟨3, 4, 1⟩, w⟩,
   ⟨.ldaAby w, .absoluteY, ⟨3, 4, 1⟩, w⟩,
   ⟨.ldaIzx b, .indexedIndirect, ⟨2, 6, 0⟩, zext16 b⟩,
   ⟨.ldaIzy b, .indirectIndexed, ⟨2, 5, 1⟩, zext16 b⟩]

/-- The memory-operand forms of LDX (R150): operand byte `b`, operand word `w`. -/
def Forms.ldx (b : Byte) (w : Word) : List Shape :=
  [⟨.ldxZp b, .zeroPage, ⟨2, 3, 0⟩, zext16 b⟩,
   ⟨.ldxZpy b, .zeroPageY, ⟨2, 4, 0⟩, zext16 b⟩,
   ⟨.ldxAbs w, .absolute, ⟨3, 4, 0⟩, w⟩,
   ⟨.ldxAby w, .absoluteY, ⟨3, 4, 1⟩, w⟩]

/-- The memory-operand forms of LDY (R150): operand byte `b`, operand word `w`. -/
def Forms.ldy (b : Byte) (w : Word) : List Shape :=
  [⟨.ldyZp b, .zeroPage, ⟨2, 3, 0⟩, zext16 b⟩,
   ⟨.ldyZpx b, .zeroPageX, ⟨2, 4, 0⟩, zext16 b⟩,
   ⟨.ldyAbs w, .absolute, ⟨3, 4, 0⟩, w⟩,
   ⟨.ldyAbx w, .absoluteX, ⟨3, 4, 1⟩, w⟩]

/-- The memory-operand forms of ADC (R150): operand byte `b`, operand word `w`. -/
def Forms.adc (b : Byte) (w : Word) : List Shape :=
  [⟨.adcZp b, .zeroPage, ⟨2, 3, 0⟩, zext16 b⟩,
   ⟨.adcZpx b, .zeroPageX, ⟨2, 4, 0⟩, zext16 b⟩,
   ⟨.adcAbs w, .absolute, ⟨3, 4, 0⟩, w⟩,
   ⟨.adcAbx w, .absoluteX, ⟨3, 4, 1⟩, w⟩,
   ⟨.adcAby w, .absoluteY, ⟨3, 4, 1⟩, w⟩,
   ⟨.adcIzx b, .indexedIndirect, ⟨2, 6, 0⟩, zext16 b⟩,
   ⟨.adcIzy b, .indirectIndexed, ⟨2, 5, 1⟩, zext16 b⟩]

/-- The memory-operand forms of SBC (R150): operand byte `b`, operand word `w`. -/
def Forms.sbc (b : Byte) (w : Word) : List Shape :=
  [⟨.sbcZp b, .zeroPage, ⟨2, 3, 0⟩, zext16 b⟩,
   ⟨.sbcZpx b, .zeroPageX, ⟨2, 4, 0⟩, zext16 b⟩,
   ⟨.sbcAbs w, .absolute, ⟨3, 4, 0⟩, w⟩,
   ⟨.sbcAbx w, .absoluteX, ⟨3, 4, 1⟩, w⟩,
   ⟨.sbcAby w, .absoluteY, ⟨3, 4, 1⟩, w⟩,
   ⟨.sbcIzx b, .indexedIndirect, ⟨2, 6, 0⟩, zext16 b⟩,
   ⟨.sbcIzy b, .indirectIndexed, ⟨2, 5, 1⟩, zext16 b⟩]

/-- The memory-operand forms of AND (R150): operand byte `b`, operand word `w`. -/
def Forms.and (b : Byte) (w : Word) : List Shape :=
  [⟨.andZp b, .zeroPage, ⟨2, 3, 0⟩, zext16 b⟩,
   ⟨.andZpx b, .zeroPageX, ⟨2, 4, 0⟩, zext16 b⟩,
   ⟨.andAbs w, .absolute, ⟨3, 4, 0⟩, w⟩,
   ⟨.andAbx w, .absoluteX, ⟨3, 4, 1⟩, w⟩,
   ⟨.andAby w, .absoluteY, ⟨3, 4, 1⟩, w⟩,
   ⟨.andIzx b, .indexedIndirect, ⟨2, 6, 0⟩, zext16 b⟩,
   ⟨.andIzy b, .indirectIndexed, ⟨2, 5, 1⟩, zext16 b⟩]

/-- The memory-operand forms of ORA (R150): operand byte `b`, operand word `w`. -/
def Forms.ora (b : Byte) (w : Word) : List Shape :=
  [⟨.oraZp b, .zeroPage, ⟨2, 3, 0⟩, zext16 b⟩,
   ⟨.oraZpx b, .zeroPageX, ⟨2, 4, 0⟩, zext16 b⟩,
   ⟨.oraAbs w, .absolute, ⟨3, 4, 0⟩, w⟩,
   ⟨.oraAbx w, .absoluteX, ⟨3, 4, 1⟩, w⟩,
   ⟨.oraAby w, .absoluteY, ⟨3, 4, 1⟩, w⟩,
   ⟨.oraIzx b, .indexedIndirect, ⟨2, 6, 0⟩, zext16 b⟩,
   ⟨.oraIzy b, .indirectIndexed, ⟨2, 5, 1⟩, zext16 b⟩]

/-- The memory-operand forms of EOR (R150): operand byte `b`, operand word `w`. -/
def Forms.eor (b : Byte) (w : Word) : List Shape :=
  [⟨.eorZp b, .zeroPage, ⟨2, 3, 0⟩, zext16 b⟩,
   ⟨.eorZpx b, .zeroPageX, ⟨2, 4, 0⟩, zext16 b⟩,
   ⟨.eorAbs w, .absolute, ⟨3, 4, 0⟩, w⟩,
   ⟨.eorAbx w, .absoluteX, ⟨3, 4, 1⟩, w⟩,
   ⟨.eorAby w, .absoluteY, ⟨3, 4, 1⟩, w⟩,
   ⟨.eorIzx b, .indexedIndirect, ⟨2, 6, 0⟩, zext16 b⟩,
   ⟨.eorIzy b, .indirectIndexed, ⟨2, 5, 1⟩, zext16 b⟩]

/-- The memory-operand forms of CMP (R150): operand byte `b`, operand word `w`. -/
def Forms.cmp (b : Byte) (w : Word) : List Shape :=
  [⟨.cmpZp b, .zeroPage, ⟨2, 3, 0⟩, zext16 b⟩,
   ⟨.cmpZpx b, .zeroPageX, ⟨2, 4, 0⟩, zext16 b⟩,
   ⟨.cmpAbs w, .absolute, ⟨3, 4, 0⟩, w⟩,
   ⟨.cmpAbx w, .absoluteX, ⟨3, 4, 1⟩, w⟩,
   ⟨.cmpAby w, .absoluteY, ⟨3, 4, 1⟩, w⟩,
   ⟨.cmpIzx b, .indexedIndirect, ⟨2, 6, 0⟩, zext16 b⟩,
   ⟨.cmpIzy b, .indirectIndexed, ⟨2, 5, 1⟩, zext16 b⟩]

/-- The memory-operand forms of CPX (R150): operand byte `b`, operand word `w`. -/
def Forms.cpx (b : Byte) (w : Word) : List Shape :=
  [⟨.cpxZp b, .zeroPage, ⟨2, 3, 0⟩, zext16 b⟩,
   ⟨.cpxAbs w, .absolute, ⟨3, 4, 0⟩, w⟩]

/-- The memory-operand forms of CPY (R150): operand byte `b`, operand word `w`. -/
def Forms.cpy (b : Byte) (w : Word) : List Shape :=
  [⟨.cpyZp b, .zeroPage, ⟨2, 3, 0⟩, zext16 b⟩,
   ⟨.cpyAbs w, .absolute, ⟨3, 4, 0⟩, w⟩]

/-- The memory-operand forms of BIT (R150): operand byte `b`, operand word `w`. -/
def Forms.bit (b : Byte) (w : Word) : List Shape :=
  [⟨.bitZp b, .zeroPage, ⟨2, 3, 0⟩, zext16 b⟩,
   ⟨.bitAbs w, .absolute, ⟨3, 4, 0⟩, w⟩]

/-- The memory forms of STA (R150). -/
def Forms.sta (b : Byte) (w : Word) : List Shape :=
  [⟨.staZp b, .zeroPage, ⟨2, 3, 0⟩, zext16 b⟩,
   ⟨.staZpx b, .zeroPageX, ⟨2, 4, 0⟩, zext16 b⟩,
   ⟨.staAbs w, .absolute, ⟨3, 4, 0⟩, w⟩,
   ⟨.staAbx w, .absoluteX, ⟨3, 5, 0⟩, w⟩,
   ⟨.staAby w, .absoluteY, ⟨3, 5, 0⟩, w⟩,
   ⟨.staIzx b, .indexedIndirect, ⟨2, 6, 0⟩, zext16 b⟩,
   ⟨.staIzy b, .indirectIndexed, ⟨2, 6, 0⟩, zext16 b⟩]

/-- The memory forms of STX (R150). -/
def Forms.stx (b : Byte) (w : Word) : List Shape :=
  [⟨.stxZp b, .zeroPage, ⟨2, 3, 0⟩, zext16 b⟩,
   ⟨.stxZpy b, .zeroPageY, ⟨2, 4, 0⟩, zext16 b⟩,
   ⟨.stxAbs w, .absolute, ⟨3, 4, 0⟩, w⟩]

/-- The memory forms of STY (R150). -/
def Forms.sty (b : Byte) (w : Word) : List Shape :=
  [⟨.styZp b, .zeroPage, ⟨2, 3, 0⟩, zext16 b⟩,
   ⟨.styZpx b, .zeroPageX, ⟨2, 4, 0⟩, zext16 b⟩,
   ⟨.styAbs w, .absolute, ⟨3, 4, 0⟩, w⟩]

/-- The memory forms of INC (R150). -/
def Forms.inc (b : Byte) (w : Word) : List Shape :=
  [⟨.incZp b, .zeroPage, ⟨2, 5, 0⟩, zext16 b⟩,
   ⟨.incZpx b, .zeroPageX, ⟨2, 6, 0⟩, zext16 b⟩,
   ⟨.incAbs w, .absolute, ⟨3, 6, 0⟩, w⟩,
   ⟨.incAbx w, .absoluteX, ⟨3, 7, 0⟩, w⟩]

/-- The memory forms of DEC (R150). -/
def Forms.dec (b : Byte) (w : Word) : List Shape :=
  [⟨.decZp b, .zeroPage, ⟨2, 5, 0⟩, zext16 b⟩,
   ⟨.decZpx b, .zeroPageX, ⟨2, 6, 0⟩, zext16 b⟩,
   ⟨.decAbs w, .absolute, ⟨3, 6, 0⟩, w⟩,
   ⟨.decAbx w, .absoluteX, ⟨3, 7, 0⟩, w⟩]

/-- The memory forms of ASL (R150). -/
def Forms.asl (b : Byte) (w : Word) : List Shape :=
  [⟨.aslZp b, .zeroPage, ⟨2, 5, 0⟩, zext16 b⟩,
   ⟨.aslZpx b, .zeroPageX, ⟨2, 6, 0⟩, zext16 b⟩,
   ⟨.aslAbs w, .absolute, ⟨3, 6, 0⟩, w⟩,
   ⟨.aslAbx w, .absoluteX, ⟨3, 7, 0⟩, w⟩]

/-- The memory forms of LSR (R150). -/
def Forms.lsr (b : Byte) (w : Word) : List Shape :=
  [⟨.lsrZp b, .zeroPage, ⟨2, 5, 0⟩, zext16 b⟩,
   ⟨.lsrZpx b, .zeroPageX, ⟨2, 6, 0⟩, zext16 b⟩,
   ⟨.lsrAbs w, .absolute, ⟨3, 6, 0⟩, w⟩,
   ⟨.lsrAbx w, .absoluteX, ⟨3, 7, 0⟩, w⟩]

/-- The memory forms of ROL (R150). -/
def Forms.rol (b : Byte) (w : Word) : List Shape :=
  [⟨.rolZp b, .zeroPage, ⟨2, 5, 0⟩, zext16 b⟩,
   ⟨.rolZpx b, .zeroPageX, ⟨2, 6, 0⟩, zext16 b⟩,
   ⟨.rolAbs w, .absolute, ⟨3, 6, 0⟩, w⟩,
   ⟨.rolAbx w, .absoluteX, ⟨3, 7, 0⟩, w⟩]

/-- The memory forms of ROR (R150). -/
def Forms.ror (b : Byte) (w : Word) : List Shape :=
  [⟨.rorZp b, .zeroPage, ⟨2, 5, 0⟩, zext16 b⟩,
   ⟨.rorZpx b, .zeroPageX, ⟨2, 6, 0⟩, zext16 b⟩,
   ⟨.rorAbs w, .absolute, ⟨3, 6, 0⟩, w⟩,
   ⟨.rorAbx w, .absoluteX, ⟨3, 7, 0⟩, w⟩]

/-- One undocumented opcode: its byte and its form with the default ILLEGAL_TABLE entry (R153). -/
structure UndocumentedShape where
  opcode : Byte
  form : Shape
deriving DecidableEq, Repr

/-- The undocumented opcodes, part 1 (R153). -/
def Forms.undocumented1 (b : Byte) (w : Word) : List UndocumentedShape :=
  [⟨0x02, ⟨.kil02, .implied, ⟨1, 2, 0⟩, 0⟩⟩,
   ⟨0x03, ⟨.slo03 b, .indexedIndirect, ⟨2, 8, 0⟩, zext16 b⟩⟩,
   ⟨0x04, ⟨.nop04 b, .zeroPage, ⟨2, 3, 0⟩, zext16 b⟩⟩,
   ⟨0x07, ⟨.slo07 b, .zeroPage, ⟨2, 5, 0⟩, zext16 b⟩⟩,
   ⟨0x0B, ⟨.anc0B b, .immediate, ⟨2, 2, 0⟩, zext16 b⟩⟩,
   ⟨0x0C, ⟨.nop0C w, .absolute, ⟨3, 4, 0⟩, w⟩⟩,
   ⟨0x0F, ⟨.slo0F w, .absolute, ⟨3, 6, 0⟩, w⟩⟩,
   ⟨0x12, ⟨.kil12, .implied, ⟨1, 2, 0⟩, 0⟩⟩,
   ⟨0x13, ⟨.slo13 b, .indirectIndexed, ⟨2, 8, 0⟩, zext16 b⟩⟩,
   ⟨0x14, ⟨.nop14 b, .zeroPageX, ⟨2, 4, 0⟩, zext16 b⟩⟩,
   ⟨0x17, ⟨.slo17 b, .zeroPageX, ⟨2, 6, 0⟩, zext16 b⟩⟩,
   ⟨0x1A, ⟨.nop1A, .implied, ⟨1, 2, 0⟩, 0⟩⟩,
   ⟨0x1B, ⟨.slo1B w, .absoluteY, ⟨3, 7, 0⟩, w⟩⟩,
   ⟨0x1C, ⟨.nop1C w, .absoluteX, ⟨3, 4, 1⟩, w⟩⟩,
   ⟨0x1F, ⟨.slo1F w, .absoluteX, ⟨3, 7, 0⟩, w⟩⟩,
   ⟨0x22, ⟨.kil22, .implied, ⟨1, 2, 0⟩, 0⟩⟩,
   ⟨0x23, ⟨.rla23 b, .indexedIndirect, ⟨2, 8, 0⟩, zext16 b⟩⟩,
   ⟨0x27, ⟨.rla27 b, .zeroPage, ⟨2, 5, 0⟩, zext16 b⟩⟩,
   ⟨0x2B, ⟨.anc2B b, .immediate, ⟨2, 2, 0⟩, zext16 b⟩⟩,
   ⟨0x2F, ⟨.rla2F w, .absolute, ⟨3, 6, 0⟩, w⟩⟩,
   ⟨0x32, ⟨.kil32, .implied, ⟨1, 2, 0⟩, 0⟩⟩,
   ⟨0x33, ⟨.rla33 b, .indirectIndexed, ⟨2, 8, 0⟩, zext16 b⟩⟩,
   ⟨0x34, ⟨.nop34 b, .zeroPageX, ⟨2, 4, 0⟩, zext16 b⟩⟩,
   ⟨0x37, ⟨.rla37 b, .zeroPageX, ⟨2, 6, 0⟩, zext16 b⟩⟩,
   ⟨0x3A, ⟨.nop3A, .implied, ⟨1, 2, 0⟩, 0⟩⟩,
   ⟨0x3B, ⟨.rla3B w, .absoluteY, ⟨3, 7, 0⟩, w⟩⟩,
   ⟨0x3C, ⟨.nop3C w, .absoluteX, ⟨3, 4, 1⟩, w⟩⟩]

/-- The undocumented opcodes, part 2 (R153). -/
def Forms.undocumented2 (b : Byte) (w : Word) : List UndocumentedShape :=
  [⟨0x3F, ⟨.rla3F w, .absoluteX, ⟨3, 7, 0⟩, w⟩⟩,
   ⟨0x42, ⟨.kil42, .implied, ⟨1, 2, 0⟩, 0⟩⟩,
   ⟨0x43, ⟨.sre43 b, .indexedIndirect, ⟨2, 8, 0⟩, zext16 b⟩⟩,
   ⟨0x44, ⟨.nop44 b, .zeroPage, ⟨2, 3, 0⟩, zext16 b⟩⟩,
   ⟨0x47, ⟨.sre47 b, .zeroPage, ⟨2, 5, 0⟩, zext16 b⟩⟩,
   ⟨0x4B, ⟨.alr4B b, .immediate, ⟨2, 2, 0⟩, zext16 b⟩⟩,
   ⟨0x4F, ⟨.sre4F w, .absolute, ⟨3, 6, 0⟩, w⟩⟩,
   ⟨0x52, ⟨.kil52, .implied, ⟨1, 2, 0⟩, 0⟩⟩,
   ⟨0x53, ⟨.sre53 b, .indirectIndexed, ⟨2, 8, 0⟩, zext16 b⟩⟩,
   ⟨0x54, ⟨.nop54 b, .zeroPageX, ⟨2, 4, 0⟩, zext16 b⟩⟩,
   ⟨0x57, ⟨.sre57 b, .zeroPageX, ⟨2, 6, 0⟩, zext16 b⟩⟩,
   ⟨0x5A, ⟨.nop5A, .implied, ⟨1, 2, 0⟩, 0⟩⟩,
   ⟨0x5B, ⟨.sre5B w, .absoluteY, ⟨3, 7, 0⟩, w⟩⟩,
   ⟨0x5C, ⟨.nop5C w, .absoluteX, ⟨3, 4, 1⟩, w⟩⟩,
   ⟨0x5F, ⟨.sre5F w, .absoluteX, ⟨3, 7, 0⟩, w⟩⟩,
   ⟨0x62, ⟨.kil62, .implied, ⟨1, 2, 0⟩, 0⟩⟩,
   ⟨0x63, ⟨.rra63 b, .indexedIndirect, ⟨2, 8, 0⟩, zext16 b⟩⟩,
   ⟨0x64, ⟨.nop64 b, .zeroPage, ⟨2, 3, 0⟩, zext16 b⟩⟩,
   ⟨0x67, ⟨.rra67 b, .zeroPage, ⟨2, 5, 0⟩, zext16 b⟩⟩,
   ⟨0x6B, ⟨.arr6B b, .immediate, ⟨2, 2, 0⟩, zext16 b⟩⟩,
   ⟨0x6F, ⟨.rra6F w, .absolute, ⟨3, 6, 0⟩, w⟩⟩,
   ⟨0x72, ⟨.kil72, .implied, ⟨1, 2, 0⟩, 0⟩⟩,
   ⟨0x73, ⟨.rra73 b, .indirectIndexed, ⟨2, 8, 0⟩, zext16 b⟩⟩,
   ⟨0x74, ⟨.nop74 b, .zeroPageX, ⟨2, 4, 0⟩, zext16 b⟩⟩,
   ⟨0x77, ⟨.rra77 b, .zeroPageX, ⟨2, 6, 0⟩, zext16 b⟩⟩,
   ⟨0x7A, ⟨.nop7A, .implied, ⟨1, 2, 0⟩, 0⟩⟩,
   ⟨0x7B, ⟨.rra7B w, .absoluteY, ⟨3, 7, 0⟩, w⟩⟩]

/-- The undocumented opcodes, part 3 (R153). -/
def Forms.undocumented3 (b : Byte) (w : Word) : List UndocumentedShape :=
  [⟨0x7C, ⟨.nop7C w, .absoluteX, ⟨3, 4, 1⟩, w⟩⟩,
   ⟨0x7F, ⟨.rra7F w, .absoluteX, ⟨3, 7, 0⟩, w⟩⟩,
   ⟨0x80, ⟨.nop80 b, .immediate, ⟨2, 2, 0⟩, zext16 b⟩⟩,
   ⟨0x82, ⟨.nop82 b, .immediate, ⟨2, 2, 0⟩, zext16 b⟩⟩,
   ⟨0x83, ⟨.sax83 b, .indexedIndirect, ⟨2, 6, 0⟩, zext16 b⟩⟩,
   ⟨0x87, ⟨.sax87 b, .zeroPage, ⟨2, 3, 0⟩, zext16 b⟩⟩,
   ⟨0x89, ⟨.nop89 b, .immediate, ⟨2, 2, 0⟩, zext16 b⟩⟩,
   ⟨0x8B, ⟨.xaa8B b, .immediate, ⟨2, 2, 0⟩, zext16 b⟩⟩,
   ⟨0x8F, ⟨.sax8F w, .absolute, ⟨3, 4, 0⟩, w⟩⟩,
   ⟨0x92, ⟨.kil92, .implied, ⟨1, 2, 0⟩, 0⟩⟩,
   ⟨0x93, ⟨.ahx93 b, .indirectIndexed, ⟨2, 6, 0⟩, zext16 b⟩⟩,
   ⟨0x97, ⟨.sax97 b, .zeroPageY, ⟨2, 4, 0⟩, zext16 b⟩⟩,
   ⟨0x9B, ⟨.tas9B w, .absoluteY, ⟨3, 5, 0⟩, w⟩⟩,
   ⟨0x9C, ⟨.shy9C w, .absoluteX, ⟨3, 5, 0⟩, w⟩⟩,
   ⟨0x9E, ⟨.shx9E w, .absoluteY, ⟨3, 5, 0⟩, w⟩⟩,
   ⟨0x9F, ⟨.ahx9F w, .absoluteY, ⟨3, 5, 0⟩, w⟩⟩,
   ⟨0xA3, ⟨.laxA3 b, .indexedIndirect, ⟨2, 6, 0⟩, zext16 b⟩⟩,
   ⟨0xA7, ⟨.laxA7 b, .zeroPage, ⟨2, 3, 0⟩, zext16 b⟩⟩,
   ⟨0xAB, ⟨.laxAB b, .immediate, ⟨2, 2, 0⟩, zext16 b⟩⟩,
   ⟨0xAF, ⟨.laxAF w, .absolute, ⟨3, 4, 0⟩, w⟩⟩,
   ⟨0xB2, ⟨.kilB2, .implied, ⟨1, 2, 0⟩, 0⟩⟩,
   ⟨0xB3, ⟨.laxB3 b, .indirectIndexed, ⟨2, 5, 1⟩, zext16 b⟩⟩,
   ⟨0xB7, ⟨.laxB7 b, .zeroPageY, ⟨2, 4, 0⟩, zext16 b⟩⟩,
   ⟨0xBB, ⟨.lasBB w, .absoluteY, ⟨3, 4, 1⟩, w⟩⟩,
   ⟨0xBF, ⟨.laxBF w, .absoluteY, ⟨3, 4, 1⟩, w⟩⟩,
   ⟨0xC2, ⟨.nopC2 b, .immediate, ⟨2, 2, 0⟩, zext16 b⟩⟩,
   ⟨0xC3, ⟨.dcpC3 b, .indexedIndirect, ⟨2, 8, 0⟩, zext16 b⟩⟩]

/-- The undocumented opcodes, part 4 (R153). -/
def Forms.undocumented4 (b : Byte) (w : Word) : List UndocumentedShape :=
  [⟨0xC7, ⟨.dcpC7 b, .zeroPage, ⟨2, 5, 0⟩, zext16 b⟩⟩,
   ⟨0xCB, ⟨.axsCB b, .immediate, ⟨2, 2, 0⟩, zext16 b⟩⟩,
   ⟨0xCF, ⟨.dcpCF w, .absolute, ⟨3, 6, 0⟩, w⟩⟩,
   ⟨0xD2, ⟨.kilD2, .implied, ⟨1, 2, 0⟩, 0⟩⟩,
   ⟨0xD3, ⟨.dcpD3 b, .indirectIndexed, ⟨2, 8, 0⟩, zext16 b⟩⟩,
   ⟨0xD4, ⟨.nopD4 b, .zeroPageX, ⟨2, 4, 0⟩, zext16 b⟩⟩,
   ⟨0xD7, ⟨.dcpD7 b, .zeroPageX, ⟨2, 6, 0⟩, zext16 b⟩⟩,
   ⟨0xDA, ⟨.nopDA, .implied, ⟨1, 2, 0⟩, 0⟩⟩,
   ⟨0xDB, ⟨.dcpDB w, .absoluteY, ⟨3, 7, 0⟩, w⟩⟩,
   ⟨0xDC, ⟨.nopDC w, .absoluteX, ⟨3, 4, 1⟩, w⟩⟩,
   ⟨0xDF, ⟨.dcpDF w, .absoluteX, ⟨3, 7, 0⟩, w⟩⟩,
   ⟨0xE2, ⟨.nopE2 b, .immediate, ⟨2, 2, 0⟩, zext16 b⟩⟩,
   ⟨0xE3, ⟨.iscE3 b, .indexedIndirect, ⟨2, 8, 0⟩, zext16 b⟩⟩,
   ⟨0xE7, ⟨.iscE7 b, .zeroPage, ⟨2, 5, 0⟩, zext16 b⟩⟩,
   ⟨0xEB, ⟨.sbcEB b, .immediate, ⟨2, 2, 0⟩, zext16 b⟩⟩,
   ⟨0xEF, ⟨.iscEF w, .absolute, ⟨3, 6, 0⟩, w⟩⟩,
   ⟨0xF2, ⟨.kilF2, .implied, ⟨1, 2, 0⟩, 0⟩⟩,
   ⟨0xF3, ⟨.iscF3 b, .indirectIndexed, ⟨2, 8, 0⟩, zext16 b⟩⟩,
   ⟨0xF4, ⟨.nopF4 b, .zeroPageX, ⟨2, 4, 0⟩, zext16 b⟩⟩,
   ⟨0xF7, ⟨.iscF7 b, .zeroPageX, ⟨2, 6, 0⟩, zext16 b⟩⟩,
   ⟨0xFA, ⟨.nopFA, .implied, ⟨1, 2, 0⟩, 0⟩⟩,
   ⟨0xFB, ⟨.iscFB w, .absoluteY, ⟨3, 7, 0⟩, w⟩⟩,
   ⟨0xFC, ⟨.nopFC w, .absoluteX, ⟨3, 4, 1⟩, w⟩⟩,
   ⟨0xFF, ⟨.iscFF w, .absoluteX, ⟨3, 7, 0⟩, w⟩⟩]

/-- All 105 undocumented opcodes (R153). -/
def Forms.undocumented (b : Byte) (w : Word) : List UndocumentedShape :=
  Forms.undocumented1 b w ++ Forms.undocumented2 b w ++ Forms.undocumented3 b w ++ Forms.undocumented4 b w

end Sys2Proof.Machine
end

