-- ==== Sys2Proof/Certificates/Slice0/Obligations.lean ====
section
/-! DEFINITION. The statements for the provers. Each docstring says which rule of spec/ it states. Log entries
are notes/assumptions/<n>.md. -/

open Sys2Proof Sys2Proof.Machine

/-! ### Encoding -/

/-- Decoding an encoded instruction gives it back, every operand at every value, and leaves the bytes after it
(R140 to R143, R158). -/
def Obligations.DecodeOfEncode : Prop :=
  ∀ (i : Instr) (rest : List Byte), decode (encode i ++ rest) = .ok (i, rest)

/-- Every byte string that decodes is the encoding of what it decodes to: no two byte strings share an
instruction, and no bit is dropped (R142, R143). -/
def Obligations.EncodeOfDecode : Prop :=
  ∀ (bytes : List Byte) (i : Instr) (rest : List Byte), decode bytes = .ok (i, rest) → bytes = encode i ++ rest

/-- Every opcode byte decodes, whatever follows it, to an instruction with that opcode and the length of its
table row, which is 1, 2 or 3 (R140, R154, R156). -/
def Obligations.EveryOpcodeDecodes : Prop :=
  ∀ (op b1 b2 : Byte) (rest : List Byte), ∃ i : Instr,
    decode (op :: b1 :: b2 :: rest) = .ok (i, (op :: b1 :: b2 :: rest).drop (opRow op).cost.size) ∧
    i.opcode = op ∧ 1 ≤ (opRow op).cost.size ∧ (opRow op).cost.size ≤ 3

/-- Words written out from the encoding tables decode to the instruction they stand for (R150, R153, R157). -/
def Obligations.WrittenOutWords : Prop :=
  decodeTableWord 16 0x80A9 = some (.ldaImm 0x80) ∧ decodeTableWord 24 0x1234AD = some (.ldaAbs 0x1234) ∧
  decodeTableWord 16 0x1091 = some (.staIzy 0x10) ∧ decodeTableWord 8 0xAA = some .tax ∧
  decodeTableWord 24 0x2000CE = some (.decAbs 0x2000) ∧ decodeTableWord 16 0x1024 = some (.bitZp 0x10) ∧
  decodeTableWord 8 0x6A = some .rorAcc ∧ decodeTableWord 24 0x12FF6C = some (.jmpInd 0x12FF) ∧
  decodeTableWord 24 0x031020 = some (.jsr 0x0310) ∧ decodeTableWord 16 0xFBD0 = some (.bne 0xFB) ∧
  decodeTableWord 8 0x28 = some .plp ∧ decodeTableWord 16 0xEA00 = some (.brk 0xEA) ∧
  decodeTableWord 24 0x12FF1C = some (.nop1C 0x12FF) ∧ decodeTableWord 8 0x02 = some .kil02

/-! ### The step -/

/-- A step runs the decoded instruction: where the bytes at PC decode to `i`, the step is `exec i` from the state
the fetch leaves, followed by the frame sequencer's action. The fetch changes no register and no byte of
RAM, and away from the soft-switch page no device, and what it reads is then the mapped memory
(R10, R11, R122, R141). -/
def Obligations.StepRunsTheDecodedInstruction : Prop :=
  ∀ (s : State) (i : Instr) (rest : List Byte),
    decode (codeBytes (beforeTick s)) = .ok (i, rest) →
    step s =
      (match exec i (fetch (beforeTick s)).2 with
      | .next t => .next (afterTick (cyclesSince (beforeTick s).cpu.cycleCount t) t)
      | .fault r => .fault r
      | .refused r => .refused r) ∧
    BusFrame (beforeTick s) (fetch (beforeTick s)).2 ∧ SameRam (beforeTick s) (fetch (beforeTick s)).2 ∧
    ((∀ k < 3, isIo ((beforeTick s).cpu.pc + BitVec.ofNat 16 k) = false) →
      SameDevices (beforeTick s) (fetch (beforeTick s)).2 ∧
      codeBytes (beforeTick s) =
        [mappedByte (beforeTick s) (beforeTick s).cpu.pc, mappedByte (beforeTick s) ((beforeTick s).cpu.pc + 1),
          mappedByte (beforeTick s) ((beforeTick s).cpu.pc + 2)])

/-- What a tick does before the operation: PC advances by the size, the base cycles and the page penalty are
counted, `al` is written, no other register moves; and what `al` and `paged` are in each mode, the zero-page
sums modulo 256 and the others modulo 65536, a zero-page pointer's second byte from within zero page, an
Indirect pointer's second byte from the same page (R141, R144, R145, R146). -/
def Obligations.EffectiveAddresses : Prop :=
  ∀ (c : OpCost) (b : Byte) (w : Word) (s : State),
    (∀ m : Mode,
      (prepare m c w s).cpu =
        { s.cpu with
          al := (resolve m w s).al
          pc := s.cpu.pc + BitVec.ofNat 16 c.size
          cycleCount :=
            s.cpu.cycleCount + BitVec.ofNat 64 (c.cycles + if (resolve m w s).paged then c.pageCycles else 0) }) ∧
    (∀ m ∈ [Mode.immediate, .zeroPage, .zeroPageX, .zeroPageY, .absolute, .indirect, .indexedIndirect, .relative],
      (resolve m w s).paged = false) ∧
    (resolve .immediate w s).al.toNat = (s.cpu.pc.toNat + 1) % 65536 ∧
    (resolve .zeroPage (zext16 b) s).al.toNat = b.toNat ∧
    (resolve .zeroPageX (zext16 b) s).al.toNat = (b.toNat + s.cpu.x.toNat) % 256 ∧
    (resolve .zeroPageY (zext16 b) s).al.toNat = (b.toNat + s.cpu.y.toNat) % 256 ∧
    (resolve .absolute w s).al = w ∧
    (resolve .absoluteX w s).al.toNat = (w.toNat + s.cpu.x.toNat) % 65536 ∧
    (resolve .absoluteX w s).paged = decide ((resolve .absoluteX w s).al.toNat / 256 ≠ w.toNat / 256) ∧
    (resolve .absoluteY w s).al.toNat = (w.toNat + s.cpu.y.toNat) % 65536 ∧
    (resolve .absoluteY w s).paged = decide ((resolve .absoluteY w s).al.toNat / 256 ≠ w.toNat / 256) ∧
    (resolve .indexedIndirect (zext16 b) s).al.toNat =
      (ramRead s (zpBank s.sw) ((b.toNat + s.cpu.x.toNat + 1) % 256)).toNat * 256 +
        (ramRead s (zpBank s.sw) ((b.toNat + s.cpu.x.toNat) % 256)).toNat ∧
    (let base := (ramRead s (zpBank s.sw) ((b.toNat + 1) % 256)).toNat * 256 + (ramRead s (zpBank s.sw) b.toNat).toNat
    (resolve .indirectIndexed (zext16 b) s).al.toNat = (base + s.cpu.y.toNat) % 65536 ∧
    (resolve .indirectIndexed (zext16 b) s).paged =
      decide ((resolve .indirectIndexed (zext16 b) s).al.toNat / 256 ≠ base / 256)) ∧
    (isIo w = false →
      (resolve .indirect w s).al.toNat =
        (mappedByte s (BitVec.ofNat 16 (w.toNat / 256 * 256 + (w.toNat + 1) % 256))).toNat * 256 +
          (mappedByte s w).toNat) ∧
    (resolve .relative (zext16 b) s).al = BitVec.ofInt 16 (s.cpu.pc.toNat + 2 + b.toInt)

/-- A step always has a next state, but for opcode $00 where `BRK_MODE = halt`: then it ends the run, and it
does so there only (R10, R294). The two readings of $00 are the parameter `BRK_MODE` (log entry 3). -/
def Obligations.StepCompletesOrHalts : Prop :=
  ∀ s : State,
    ((s.params.brkMode = .halt ∧ (memRead (beforeTick s).cpu.pc (beforeTick s)).1 = 0x00) → step s = .fault .brkHalt) ∧
    (¬(s.params.brkMode = .halt ∧ (memRead (beforeTick s).cpu.pc (beforeTick s)).1 = 0x00) → Completes s)

/-- Cycle accounting: an instruction that completes adds at least its base cycles, and at most these, its page
penalty and 2 (R556, R302). -/
def Obligations.CycleBounds : Prop :=
  ∀ (i : Instr) (s t : State), exec i s = .next t →
    ∃ n : Nat, t.cpu.cycleCount = s.cpu.cycleCount + BitVec.ofNat 64 n ∧
      (costOf s.params i).cycles ≤ n ∧ n ≤ (costOf s.params i).cycles + (costOf s.params i).pageCycles + 2

/-- The IRQ and NMI lines have no behaviour: whatever levels they carry, a step does the same (R504). -/
def Obligations.InterruptLinesDoNothing : Prop :=
  ∀ (irq nmi : Bool) (s : State),
    (∀ t, step s = .next t → step (withLines irq nmi s) = .next (withLines irq nmi t)) ∧
    (∀ r, step s = .fault r → step (withLines irq nmi s) = .fault r)

/-- Every step keeps the invariant: B clear and Unused set in P, both banks and the diskettes in canonical form,
the frame count inside a frame, the parameters well formed (R25, R26, R510). -/
def Obligations.StepKeepsInv : Prop := ∀ s t : State, s.Inv → step s = .next t → t.Inv

/-- The invariant holds right after reset, with the default parameters and with any well-formed ones. The
default parameters' contents are the model's choice (log entry 1). -/
def Obligations.ResetInv : Prop :=
  State.reset.Inv ∧ ∀ p : Params, p.wellFormed = true → (State.resetWith p).Inv

/-! ### Flags -/

/-- setNZ: N is bit 7, Z is whether the byte is 0, every other flag is unchanged (R32). -/
def Obligations.SetNZ : Prop :=
  ∀ v p : Byte,
    getFlag (setNZ v p) .N = v.getLsbD 7 ∧ getFlag (setNZ v p) .Z = decide (v = 0) ∧
    ∀ f ∈ [Flag.V, .U, .B, .D, .I, .C], getFlag (setNZ v p) f = getFlag p f

/-! ### Loads, stores, registers -/

/-- LDA, LDX and LDY complete in every form with the byte read in the register and N, Z set from it (R200 to R202). -/
def Obligations.LoadResult : Prop :=
  ∀ (b : Byte) (w : Word) (s : State),
    (∀ f ∈ Forms.lda b w,
      exec f.instr s =
        .next (withCpu (f.read s).2 { (f.ready s).cpu with a := (f.read s).1, p := setNZ (f.read s).1 s.cpu.p })) ∧
    (∀ f ∈ Forms.ldx b w,
      exec f.instr s =
        .next (withCpu (f.read s).2 { (f.ready s).cpu with x := (f.read s).1, p := setNZ (f.read s).1 s.cpu.p })) ∧
    (∀ f ∈ Forms.ldy b w,
      exec f.instr s =
        .next (withCpu (f.read s).2 { (f.ready s).cpu with y := (f.read s).1, p := setNZ (f.read s).1 s.cpu.p })) ∧
    exec (.ldaImm b) s = .next (withCpu (immediateReady s) { (immediateReady s).cpu with a := b, p := setNZ b s.cpu.p }) ∧
    exec (.ldxImm b) s = .next (withCpu (immediateReady s) { (immediateReady s).cpu with x := b, p := setNZ b s.cpu.p }) ∧
    exec (.ldyImm b) s = .next (withCpu (immediateReady s) { (immediateReady s).cpu with y := b, p := setNZ b s.cpu.p })

/-- STA, STX and STY complete in every form with one write of the register at `al` and nothing else
(R203 to R205). -/
def Obligations.StoreResult : Prop :=
  ∀ (b : Byte) (w : Word) (s : State),
    (∀ f ∈ Forms.sta b w, exec f.instr s = .next (memWrite (f.ready s).cpu.al s.cpu.a (f.ready s))) ∧
    (∀ f ∈ Forms.stx b w, exec f.instr s = .next (memWrite (f.ready s).cpu.al s.cpu.x (f.ready s))) ∧
    (∀ f ∈ Forms.sty b w, exec f.instr s = .next (memWrite (f.ready s).cpu.al s.cpu.y (f.ready s)))

/-- The transfers, the register increments and decrements, and NOP (R206 to R211, R234 to R237, R296). -/
def Obligations.RegisterResult : Prop :=
  ∀ s : State,
    let r := oneByteReady s
    let c := r.cpu
    exec .tax s = .next (withCpu r { c with x := s.cpu.a, p := setNZ s.cpu.a s.cpu.p }) ∧
    exec .tay s = .next (withCpu r { c with y := s.cpu.a, p := setNZ s.cpu.a s.cpu.p }) ∧
    exec .txa s = .next (withCpu r { c with a := s.cpu.x, p := setNZ s.cpu.x s.cpu.p }) ∧
    exec .tya s = .next (withCpu r { c with a := s.cpu.y, p := setNZ s.cpu.y s.cpu.p }) ∧
    exec .tsx s = .next (withCpu r { c with x := s.cpu.sp, p := setNZ s.cpu.sp s.cpu.p }) ∧
    exec .txs s = .next (withCpu r { c with sp := s.cpu.x }) ∧
    exec .inx s = .next (withCpu r { c with x := s.cpu.x + 1, p := setNZ (s.cpu.x + 1) s.cpu.p }) ∧
    exec .iny s = .next (withCpu r { c with y := s.cpu.y + 1, p := setNZ (s.cpu.y + 1) s.cpu.p }) ∧
    exec .dex s = .next (withCpu r { c with x := s.cpu.x - 1, p := setNZ (s.cpu.x - 1) s.cpu.p }) ∧
    exec .dey s = .next (withCpu r { c with y := s.cpu.y - 1, p := setNZ (s.cpu.y - 1) s.cpu.p }) ∧
    exec .nop s = .next r

/-! ### Arithmetic and logic -/

/-- ADC in every form: the opcode bytes; A takes the truncated sum; C is the carry out, V the signed overflow
test on the old A, N and Z are of the result; nothing else of the CPU changes (R223). -/
def Obligations.AdcResult : Prop :=
  ∀ (b : Byte) (w : Word),
    (Forms.adc b w).map (fun f => f.instr.opcode) = [0x65, 0x75, 0x6D, 0x7D, 0x79, 0x61, 0x71] ∧
    (Instr.adcImm b).opcode = 0x69 ∧
    ∀ s : State,
      (∀ f ∈ Forms.adc b w,
        ∃ t, exec f.instr s = .next t ∧ AddedWithCarry (f.read s).1 (f.ready s).cpu (f.read s).2 t) ∧
      ∃ t, exec (.adcImm b) s = .next t ∧ AddedWithCarry b (immediateReady s).cpu (immediateReady s) t

/-- SBC in every form: the opcode bytes; A takes A - M - (1 - C) truncated; C is no borrow, V the signed overflow
test; and the whole result is that of ADC applied to the complement of M (R224). -/
def Obligations.SbcResult : Prop :=
  ∀ (b : Byte) (w : Word),
    (Forms.sbc b w).map (fun f => f.instr.opcode) = [0xE5, 0xF5, 0xED, 0xFD, 0xF9, 0xE1, 0xF1] ∧
    (Instr.sbcImm b).opcode = 0xE9 ∧
    ∀ s : State,
      (∀ f ∈ Forms.sbc b w,
        ∃ t, exec f.instr s = .next t ∧ SubtractedWithBorrow (f.read s).1 (f.ready s).cpu (f.read s).2 t ∧
          AddedWithCarry (~~~(f.read s).1) (f.ready s).cpu (f.read s).2 t) ∧
      ∃ t, exec (.sbcImm b) s = .next t ∧ SubtractedWithBorrow b (immediateReady s).cpu (immediateReady s) t ∧
        AddedWithCarry (~~~b) (immediateReady s).cpu (immediateReady s) t

/-- Decimal mode is not honoured: ADC and SBC do the same whatever P.D holds, and leave it as it is; with D set,
$15 + $26 is $3B (R222). -/
def Obligations.DecimalModeIgnored : Prop :=
  (∀ (b : Byte) (w : Word) (s t : State) (d : Bool),
    (∀ f ∈ Forms.adc b w ++ Forms.sbc b w, exec f.instr s = .next t → exec f.instr (withD d s) = .next (withD d t)) ∧
    (∀ i ∈ [Instr.adcImm b, .sbcImm b], exec i s = .next t → exec i (withD d s) = .next (withD d t))) ∧
  ∀ s : State, s.cpu.a = 0x15 → getFlag s.cpu.p .C = false → getFlag s.cpu.p .D = true →
    ∃ t, exec (.adcImm 0x26) s = .next t ∧ t.cpu.a = 0x3B

/-- V after ADC and SBC says that the exact signed result is outside -128 to 127, and C that the exact unsigned
result is outside (ADC) or inside (SBC) 0 to 255 (R221). -/
def Obligations.OverflowIsSigned : Prop :=
  ∀ (b : Byte) (w : Word) (s t : State),
    (∀ f ∈ Forms.adc b w, exec f.instr s = .next t →
      let exact := s.cpu.a.toInt + (f.read s).1.toInt + carryIn s.cpu.p
      getFlag t.cpu.p .V = decide (exact < -128 ∨ 127 < exact) ∧ t.cpu.a = BitVec.ofInt 8 exact ∧
      getFlag t.cpu.p .C = decide (255 < s.cpu.a.toNat + (f.read s).1.toNat + carryIn s.cpu.p)) ∧
    (∀ f ∈ Forms.sbc b w, exec f.instr s = .next t →
      let exact := s.cpu.a.toInt - (f.read s).1.toInt - (1 - carryIn s.cpu.p)
      getFlag t.cpu.p .V = decide (exact < -128 ∨ 127 < exact) ∧ t.cpu.a = BitVec.ofInt 8 exact ∧
      getFlag t.cpu.p .C = decide ((f.read s).1.toNat + (1 - carryIn s.cpu.p) ≤ s.cpu.a.toNat))

/-- AND, ORA and EOR complete in every form with the result in A and N, Z set from it (R225 to R227). -/
def Obligations.LogicResult : Prop :=
  ∀ (b : Byte) (w : Word) (s : State),
    (∀ f ∈ Forms.and b w,
      exec f.instr s =
        .next (withCpu (f.read s).2
          { (f.ready s).cpu with a := s.cpu.a &&& (f.read s).1, p := setNZ (s.cpu.a &&& (f.read s).1) s.cpu.p })) ∧
    (∀ f ∈ Forms.ora b w,
      exec f.instr s =
        .next (withCpu (f.read s).2
          { (f.ready s).cpu with a := s.cpu.a ||| (f.read s).1, p := setNZ (s.cpu.a ||| (f.read s).1) s.cpu.p })) ∧
    (∀ f ∈ Forms.eor b w,
      exec f.instr s =
        .next (withCpu (f.read s).2
          { (f.ready s).cpu with a := s.cpu.a ^^^ (f.read s).1, p := setNZ (s.cpu.a ^^^ (f.read s).1) s.cpu.p })) ∧
    (let r := immediateReady s
    exec (.andImm b) s = .next (withCpu r { r.cpu with a := s.cpu.a &&& b, p := setNZ (s.cpu.a &&& b) s.cpu.p }) ∧
    exec (.oraImm b) s = .next (withCpu r { r.cpu with a := s.cpu.a ||| b, p := setNZ (s.cpu.a ||| b) s.cpu.p }) ∧
    exec (.eorImm b) s = .next (withCpu r { r.cpu with a := s.cpu.a ^^^ b, p := setNZ (s.cpu.a ^^^ b) s.cpu.p }))

/-- CMP, CPX and CPY in every form: the opcode bytes; N and Z are of reg - M truncated, C is reg >= M unsigned,
the register, V and the rest are unchanged (R228 to R230). -/
def Obligations.CompareResult : Prop :=
  ∀ (b : Byte) (w : Word),
    (Forms.cmp b w).map (fun f => f.instr.opcode) = [0xC5, 0xD5, 0xCD, 0xDD, 0xD9, 0xC1, 0xD1] ∧
    (Forms.cpx b w).map (fun f => f.instr.opcode) = [0xE4, 0xEC] ∧
    (Forms.cpy b w).map (fun f => f.instr.opcode) = [0xC4, 0xCC] ∧
    (Instr.cmpImm b).opcode = 0xC9 ∧ (Instr.cpxImm b).opcode = 0xE0 ∧ (Instr.cpyImm b).opcode = 0xC0 ∧
    ∀ s : State,
      (∀ f ∈ Forms.cmp b w,
        ∃ t, exec f.instr s = .next t ∧ Compared s.cpu.a (f.read s).1 (f.ready s).cpu (f.read s).2 t) ∧
      (∀ f ∈ Forms.cpx b w,
        ∃ t, exec f.instr s = .next t ∧ Compared s.cpu.x (f.read s).1 (f.ready s).cpu (f.read s).2 t) ∧
      (∀ f ∈ Forms.cpy b w,
        ∃ t, exec f.instr s = .next t ∧ Compared s.cpu.y (f.read s).1 (f.ready s).cpu (f.read s).2 t) ∧
      (∃ t, exec (.cmpImm b) s = .next t ∧ Compared s.cpu.a b (immediateReady s).cpu (immediateReady s) t) ∧
      (∃ t, exec (.cpxImm b) s = .next t ∧ Compared s.cpu.x b (immediateReady s).cpu (immediateReady s) t) ∧
      ∃ t, exec (.cpyImm b) s = .next t ∧ Compared s.cpu.y b (immediateReady s).cpu (immediateReady s) t

/-- BIT in both forms: N and V are bits 7 and 6 of M, Z is whether A and M have no common bit; A, C and the rest
are unchanged (R231). -/
def Obligations.BitResult : Prop :=
  ∀ (b : Byte) (w : Word),
    (Forms.bit b w).map (fun f => f.instr.opcode) = [0x24, 0x2C] ∧
    ∀ s : State, ∀ f ∈ Forms.bit b w,
      ∃ t, exec f.instr s = .next t ∧ t = withCpu (f.read s).2 { (f.ready s).cpu with p := t.cpu.p } ∧
        getFlag t.cpu.p .N = (f.read s).1.getLsbD 7 ∧ getFlag t.cpu.p .V = (f.read s).1.getLsbD 6 ∧
        getFlag t.cpu.p .Z = decide (s.cpu.a &&& (f.read s).1 = 0) ∧
        ∀ g ∈ [Flag.U, .B, .D, .I, .C], getFlag t.cpu.p g = getFlag s.cpu.p g

/-- INC and DEC complete in every form: one read, one write of the byte plus or minus 1 at the same `al`, then
N, Z (R232, R233). -/
def Obligations.IncDecResult : Prop :=
  ∀ (b : Byte) (w : Word) (s : State),
    (∀ f ∈ Forms.inc b w,
      exec f.instr s =
        .next (withCpu (memWrite (f.ready s).cpu.al ((f.read s).1 + 1) (f.read s).2)
          { (f.ready s).cpu with p := setNZ ((f.read s).1 + 1) s.cpu.p })) ∧
    (∀ f ∈ Forms.dec b w,
      exec f.instr s =
        .next (withCpu (memWrite (f.ready s).cpu.al ((f.read s).1 - 1) (f.read s).2)
          { (f.ready s).cpu with p := setNZ ((f.read s).1 - 1) s.cpu.p }))

/-- ASL, LSR, ROL and ROR complete in every form, on A and on memory: each bit moves by one place, the freed end
takes 0 or the old carry, the bit shifted out goes to C, N and Z are of the result (R250 to R254). -/
def Obligations.ShiftResult : Prop :=
  ∀ (b : Byte) (w : Word) (s : State),
    (∀ f ∈ Forms.asl b w, ShiftedMemory (fun v => shiftsLeft v false) f s) ∧
    (∀ f ∈ Forms.lsr b w, ShiftedMemory (fun v => shiftsRight v false) f s) ∧
    (∀ f ∈ Forms.rol b w, ShiftedMemory (fun v => shiftsLeft v (getFlag s.cpu.p .C)) f s) ∧
    (∀ f ∈ Forms.ror b w, ShiftedMemory (fun v => shiftsRight v (getFlag s.cpu.p .C)) f s) ∧
    ShiftedA (fun v => shiftsLeft v false) .aslAcc s ∧ ShiftedA (fun v => shiftsRight v false) .lsrAcc s ∧
    ShiftedA (fun v => shiftsLeft v (getFlag s.cpu.p .C)) .rolAcc s ∧
    ShiftedA (fun v => shiftsRight v (getFlag s.cpu.p .C)) .rorAcc s

/-! ### Control flow -/

/-- JMP: PC takes the operand, or in Indirect mode the pointer's target, whose high byte comes from within the
pointer's page; nothing else changes but what the pointer read does (R261). -/
def Obligations.JumpResult : Prop :=
  ∀ w : Word,
    encode (.jmpAbs w) = [0x4C, loByte w, hiByte w] ∧ encode (.jmpInd w) = [0x6C, loByte w, hiByte w] ∧
    ∀ s : State,
      exec (.jmpAbs w) s =
        .next (withCpu s { s.cpu with al := w, pc := w, cycleCount := s.cpu.cycleCount + 3 }) ∧
      (let p2 := BitVec.ofNat 16 (w.toNat / 256 * 256 + (w.toNat + 1) % 256)
      let lo := memRead w s
      let hi := memRead p2 lo.2
      exec (.jmpInd w) s =
        .next (withCpu hi.2
          { s.cpu with al := wordOf hi.1 lo.1, pc := wordOf hi.1 lo.1, cycleCount := s.cpu.cycleCount + 5 }) ∧
      (isIo w = false → lo.1 = mappedByte s w ∧ hi.1 = mappedByte s p2))

/-- JSR pushes the address of its own last byte, high byte first, and jumps; RTS pulls an address, low byte first,
and goes to the next one; both write no flag and no other register (R262, R263). -/
def Obligations.SubroutineResult : Prop :=
  ∀ w : Word,
    encode (.jsr w) = [0x20, loByte w, hiByte w] ∧ encode .rts = [0x60] ∧
    ∀ s : State,
      (∃ t, exec (.jsr w) s = .next t ∧
        t.cpu = { s.cpu with al := w, pc := w, sp := s.cpu.sp - 2, cycleCount := s.cpu.cycleCount + 6 } ∧
        stackByte t s.cpu.sp = hiByte (s.cpu.pc + 2) ∧ stackByte t (s.cpu.sp - 1) = loByte (s.cpu.pc + 2) ∧
        SameRamExcept [stackPlace s s.cpu.sp, stackPlace s (s.cpu.sp - 1)] s t ∧ SameDevices s t) ∧
      ∃ t, exec .rts s = .next t ∧
        t.cpu =
          { s.cpu with
            al := 0
            pc := wordOf (stackByte s (s.cpu.sp + 2)) (stackByte s (s.cpu.sp + 1)) + 1
            sp := s.cpu.sp + 2
            cycleCount := s.cpu.cycleCount + 6 } ∧
        SameRam s t ∧ SameDevices s t

/-- The eight branches complete, taken or not: PC goes to the target or stays at the next instruction, 2 cycles
not taken, 3 taken within the page of the next instruction, 4 taken out of it; nothing else changes
(R264 to R273). That the page compared with is the next instruction's is the spec's decision D17. -/
def Obligations.BranchResult : Prop :=
  ∀ (b : Byte) (s : State), ∀ f ∈ Forms.branches b,
    let next := BitVec.ofNat 16 (s.cpu.pc.toNat + 2)
    let target := BitVec.ofInt 16 (s.cpu.pc.toNat + 2 + b.toInt)
    exec f.instr s =
      .next (withCpu s
        { s.cpu with
          al := target
          pc := if getFlag s.cpu.p f.flag = f.takenOn then target else next
          cycleCount :=
            s.cpu.cycleCount +
              (if getFlag s.cpu.p f.flag = f.takenOn then (if target.toNat / 256 = next.toNat / 256 then 3 else 4)
              else 2) })

/-- JSR then RTS: RTS from a state whose stack is as JSR left it goes to the instruction after the JSR, with SP as
before the JSR (R262, R263, R28). -/
def Obligations.CallThenReturn : Prop :=
  ∀ (w : Word) (s t u : State), exec (.jsr w) s = .next t → SameStack t u →
    ∃ v, exec .rts u = .next v ∧ v.cpu.pc = s.cpu.pc + 3 ∧ v.cpu.sp = s.cpu.sp

/-! ### Stack, flags, system -/

/-- PHA stores A at the stack top and moves SP down; PLA moves SP up, loads the byte there and sets N, Z; both
wrap within the stack page (R282, R283). -/
def Obligations.PushPullAResult : Prop :=
  ∀ s : State,
    (∃ t, exec .pha s = .next t ∧
      t.cpu = { s.cpu with al := 0, pc := s.cpu.pc + 1, sp := s.cpu.sp - 1, cycleCount := s.cpu.cycleCount + 3 } ∧
      stackByte t s.cpu.sp = s.cpu.a) ∧
    ∃ t, exec .pla s = .next t ∧
      t.cpu =
        { s.cpu with
          al := 0
          pc := s.cpu.pc + 1
          sp := s.cpu.sp + 1
          cycleCount := s.cpu.cycleCount + 4
          a := stackByte s (s.cpu.sp + 1)
          p := setNZ (stackByte s (s.cpu.sp + 1)) s.cpu.p }

/-- PHP pushes P with B set and leaves P as it is; PLP takes the six flags from the pulled byte, clears B and sets
Unused (R284, R286). -/
def Obligations.PushPullPResult : Prop :=
  encode .php = [0x08] ∧ encode .plp = [0x28] ∧
  ∀ s : State,
    (∃ t, exec .php s = .next t ∧
      t.cpu = { s.cpu with al := 0, pc := s.cpu.pc + 1, sp := s.cpu.sp - 1, cycleCount := s.cpu.cycleCount + 3 } ∧
      stackByte t s.cpu.sp = s.cpu.p ||| 0x10) ∧
    ∃ t, exec .plp s = .next t ∧
      t.cpu =
        { s.cpu with
          al := 0
          pc := s.cpu.pc + 1
          sp := s.cpu.sp + 1
          cycleCount := s.cpu.cycleCount + 4
          p := t.cpu.p } ∧
      (∀ f ∈ [Flag.N, .V, .D, .I, .Z, .C], getFlag t.cpu.p f = getFlag (stackByte s (s.cpu.sp + 1)) f) ∧
      getFlag t.cpu.p .B = false ∧ getFlag t.cpu.p .U = true

/-- PHA then PLA restores A and SP; PHP then PLP restores P and SP, where B was clear and Unused set, if the stack
is left alone in between (R283, R285, R27). -/
def Obligations.PushThenPull : Prop :=
  ∀ s t u : State, SameStack t u →
    (exec .pha s = .next t → ∃ v, exec .pla u = .next v ∧ v.cpu.a = s.cpu.a ∧ v.cpu.sp = s.cpu.sp) ∧
    (exec .php s = .next t → s.cpu.p &&& 0x30 = 0x20 →
      ∃ v, exec .plp u = .next v ∧ v.cpu.p = s.cpu.p ∧ v.cpu.sp = s.cpu.sp)

/-- The seven flag instructions write one bit of P and nothing else (R287 to R292, R297). -/
def Obligations.FlagResult : Prop :=
  ∀ s : State,
    let r := oneByteReady s
    exec .clc s = .next (withCpu r { r.cpu with p := s.cpu.p &&& 0xFE }) ∧
    exec .sec s = .next (withCpu r { r.cpu with p := s.cpu.p ||| 0x01 }) ∧
    exec .cli s = .next (withCpu r { r.cpu with p := s.cpu.p &&& 0xFB }) ∧
    exec .sei s = .next (withCpu r { r.cpu with p := s.cpu.p ||| 0x04 }) ∧
    exec .cld s = .next (withCpu r { r.cpu with p := s.cpu.p &&& 0xF7 }) ∧
    exec .sed s = .next (withCpu r { r.cpu with p := s.cpu.p ||| 0x08 }) ∧
    exec .clv s = .next (withCpu r { r.cpu with p := s.cpu.p &&& 0xBF })

/-- BRK with `BRK_MODE = vector`: the return address past the signature byte and then P with B set go on the
stack, I is set and no other flag, SP is three lower, PC is the vector at $FFFE as the mapping gives it;
A, X, Y are as they were and no other byte is written (R293, R502). -/
def Obligations.BrkEntry : Prop :=
  ∀ sig : Byte,
    encode (.brk sig) = [0x00, sig] ∧
    ∀ s : State, s.params.brkMode = .vector →
      ∃ t, exec (.brk sig) s = .next t ∧
        t.cpu =
          { s.cpu with
            al := 0
            pc := wordOf (mappedByte s 0xFFFF) (mappedByte s 0xFFFE)
            sp := s.cpu.sp - 3
            p := s.cpu.p ||| 0x04
            cycleCount := s.cpu.cycleCount + 7 } ∧
        stackByte t s.cpu.sp = hiByte (s.cpu.pc + 2) ∧ stackByte t (s.cpu.sp - 1) = loByte (s.cpu.pc + 2) ∧
        stackByte t (s.cpu.sp - 2) = s.cpu.p ||| 0x10 ∧
        SameRamExcept [stackPlace s s.cpu.sp, stackPlace s (s.cpu.sp - 1), stackPlace s (s.cpu.sp - 2)] s t ∧
        SameDevices s t

/-- RTI pulls P, B cleared and Unused set, then PC with no adjustment (R295). -/
def Obligations.RtiResult : Prop :=
  encode .rti = [0x40] ∧
  ∀ s : State, ∃ t, exec .rti s = .next t ∧
    t.cpu =
      { s.cpu with
        al := 0
        pc := wordOf (stackByte s (s.cpu.sp + 3)) (stackByte s (s.cpu.sp + 2))
        sp := s.cpu.sp + 3
        p := t.cpu.p
        cycleCount := s.cpu.cycleCount + 6 } ∧
    (∀ f ∈ [Flag.N, .V, .D, .I, .Z, .C], getFlag t.cpu.p f = getFlag (stackByte s (s.cpu.sp + 1)) f) ∧
    getFlag t.cpu.p .B = false ∧ getFlag t.cpu.p .U = true

/-- A BRK whose handler is a lone RTI: PC ends past the signature byte, SP, P, A, X, Y are as before, 7 + 6 cycles
(R508). P is as before because B was clear and Unused set. -/
def Obligations.BrkThenRti : Prop :=
  ∀ (sig : Byte) (s t u : State), s.params.brkMode = .vector → s.cpu.p &&& 0x30 = 0x20 →
    exec (.brk sig) s = .next t → SameStack t u →
    ∃ v, exec .rti u = .next v ∧ v.cpu.pc = s.cpu.pc + 2 ∧ v.cpu.sp = s.cpu.sp ∧ v.cpu.p = s.cpu.p ∧
      v.cpu.a = u.cpu.a ∧ v.cpu.x = u.cpu.x ∧ v.cpu.y = u.cpu.y ∧
      t.cpu.a = s.cpu.a ∧ t.cpu.x = s.cpu.x ∧ t.cpu.y = s.cpu.y ∧
      t.cpu.cycleCount = s.cpu.cycleCount + 7 ∧ v.cpu.cycleCount = u.cpu.cycleCount + 6

/-- The 105 undocumented opcodes under any ILLEGAL_TABLE, addressing mode included: each completes and does nothing
but resolve its operand in its entry's mode, advance PC by the entry's size and count its cycles. No register, no flag
and no byte of RAM changes, no access is made at `al`, and no device changes but by an operand or pointer
read in the soft-switch page. One tick is the opcode fetch, the operand reads of the entry's mode, low byte first, and
then that (R300, R302). The format in which the decoder reads an undocumented opcode is R153's whatever the table
says; the operand bytes a format lacks are read by the meaning (log entry 2, DESIGN CHOICE). -/
def Obligations.UndocumentedResult : Prop :=
  (∀ (b : Byte) (w : Word),
    ((Forms.undocumented b w).map (fun u => u.opcode)).Nodup ∧ (Forms.undocumented b w).length = 105 ∧
    ∀ s : State, ∀ u ∈ Forms.undocumented b w,
      let e := (s.params.illegalTable.lookup u.opcode).getD ⟨u.form.mode, u.form.cost⟩
      let o := completeOperand u.form.mode e.mode u.form.operand s
      let r := resolve e.mode o.1 o.2
      let t :=
        withCpu r.state
          { s.cpu with
            al := r.al
            pc := s.cpu.pc + BitVec.ofNat 16 e.cost.size
            cycleCount := s.cpu.cycleCount + BitVec.ofNat 64 (e.cost.cycles + if r.paged then e.cost.pageCycles else 0) }
      u.form.instr.opcode = u.opcode ∧ (opRow u.opcode).documented = false ∧ exec u.form.instr s = .next t ∧
      SameRam s t ∧ SameSurroundings s t ∧
      (isIo (s.cpu.pc + 1) = false → isIo (s.cpu.pc + 2) = false → (e.mode = .indirect → isIo o.1 = false) →
        SameDevices s t) ∧
      (operandReads e.mode ≤ operandBytes u.form.mode → o = (u.form.operand, s)) ∧
      (e.mode = u.form.mode →
        SameDevices s t ∧ (u.form.mode ∉ [Mode.indexedIndirect, .indirectIndexed] → t.bus = s.bus))) ∧
  ∀ s : State,
    let op := memRead s.cpu.pc s
    let b1 := memRead (s.cpu.pc + 1) op.2
    let b2 := memRead (s.cpu.pc + 2) b1.2
    let e := (s.params.illegalTable.lookup op.1).getD ⟨(opRow op.1).mode, (opRow op.1).cost⟩
    (opRow op.1).documented = false →
      tick s =
        .next
          (match operandReads e.mode with
          | 0 => prepare e.mode e.cost 0 op.2
          | 1 => prepare e.mode e.cost (zext16 b1.1) b1.2
          | _ => prepare e.mode e.cost (wordOf b2.1 b1.1) b2.2)

/-! ### Frames -/

/-- What the read instructions leave unchanged, in every form (R29, R200 to R202, R223 to R231). -/
def Obligations.FrameOfReads : Prop :=
  ∀ (b : Byte) (w : Word) (s : State),
    ReadsOnly (Forms.lda b w) [.X, .Y, .SP] [.V, .U, .B, .D, .I, .C] s ∧
    ReadsOnly (Forms.ldx b w) [.A, .Y, .SP] [.V, .U, .B, .D, .I, .C] s ∧
    ReadsOnly (Forms.ldy b w) [.A, .X, .SP] [.V, .U, .B, .D, .I, .C] s ∧
    ReadsOnly (Forms.adc b w ++ Forms.sbc b w) [.X, .Y, .SP] [.U, .B, .D, .I] s ∧
    ReadsOnly (Forms.and b w ++ Forms.ora b w ++ Forms.eor b w) [.X, .Y, .SP] [.V, .U, .B, .D, .I, .C] s ∧
    ReadsOnly (Forms.cmp b w ++ Forms.cpx b w ++ Forms.cpy b w) [.A, .X, .Y, .SP] [.V, .U, .B, .D, .I] s ∧
    ReadsOnly (Forms.bit b w) [.A, .X, .Y, .SP] [.U, .B, .D, .I, .C] s ∧
    LeavesAllBut [] [.ldaImm b] [.X, .Y, .SP] [.V, .U, .B, .D, .I, .C] s ∧
    LeavesAllBut [] [.ldxImm b] [.A, .Y, .SP] [.V, .U, .B, .D, .I, .C] s ∧
    LeavesAllBut [] [.ldyImm b] [.A, .X, .SP] [.V, .U, .B, .D, .I, .C] s ∧
    LeavesAllBut [] [.adcImm b, .sbcImm b] [.X, .Y, .SP] [.U, .B, .D, .I] s ∧
    LeavesAllBut [] [.andImm b, .oraImm b, .eorImm b] [.X, .Y, .SP] [.V, .U, .B, .D, .I, .C] s ∧
    LeavesAllBut [] [.cmpImm b, .cpxImm b, .cpyImm b] [.A, .X, .Y, .SP] [.V, .U, .B, .D, .I] s

/-- What the stores leave unchanged: every register and flag, and every byte of both banks but the one the write
at `al` reaches, which takes the register's value (R29, R101, R203 to R205). -/
def Obligations.FrameOfStores : Prop :=
  ∀ (b : Byte) (w : Word) (s t : State),
    (∀ f ∈ Forms.sta b w ++ Forms.stx b w ++ Forms.sty b w, exec f.instr s = .next t →
      Leaves [.A, .X, .Y, .SP] allFlags s t ∧ (isIo (f.ready s).cpu.al = false → SameDevices s t)) ∧
    (∀ f ∈ Forms.sta b w, exec f.instr s = .next t →
      RamStored (storedAt (f.ready s) (f.ready s).cpu.al) s.cpu.a s t) ∧
    (∀ f ∈ Forms.stx b w, exec f.instr s = .next t →
      RamStored (storedAt (f.ready s) (f.ready s).cpu.al) s.cpu.x s t) ∧
    (∀ f ∈ Forms.sty b w, exec f.instr s = .next t →
      RamStored (storedAt (f.ready s) (f.ready s).cpu.al) s.cpu.y s t)

/-- What the read-modify-write forms leave unchanged: every register, the flags not computed, and every byte of
both banks but the one the write at `al` reaches, decoded after the read (R29, R101, R121, R220, R250). -/
def Obligations.FrameOfModify : Prop :=
  ∀ (b : Byte) (w : Word) (s t : State),
    (∀ f ∈ Forms.inc b w ++ Forms.dec b w ++ Forms.asl b w ++ Forms.lsr b w ++ Forms.rol b w ++ Forms.ror b w,
      exec f.instr s = .next t →
      Leaves [.A, .X, .Y, .SP] [.V, .U, .B, .D, .I] s t ∧
      SameRamExcept (storedAt (f.read s).2 (f.ready s).cpu.al).toList s t ∧
      (isIo (f.ready s).cpu.al = false → SameDevices s t)) ∧
    (∀ f ∈ Forms.inc b w ++ Forms.dec b w, exec f.instr s = .next t → SameFlags [.C] s t)

/-- What the one-byte register instructions leave unchanged (R29, R206 to R211, R234 to R237, R250, R287 to R297). -/
def Obligations.FrameOfRegisterInstructions : Prop :=
  ∀ s : State,
    LeavesAllBut [] [.tax, .tsx, .inx, .dex] [.A, .Y, .SP] [.V, .U, .B, .D, .I, .C] s ∧
    LeavesAllBut [] [.tay, .iny, .dey] [.A, .X, .SP] [.V, .U, .B, .D, .I, .C] s ∧
    LeavesAllBut [] [.txa, .tya] [.X, .Y, .SP] [.V, .U, .B, .D, .I, .C] s ∧
    LeavesAllBut [] [.txs] [.A, .X, .Y] allFlags s ∧
    LeavesAllBut [] [.aslAcc, .lsrAcc, .rolAcc, .rorAcc] [.X, .Y, .SP] [.V, .U, .B, .D, .I] s ∧
    LeavesAllBut [] [.clc, .sec] [.A, .X, .Y, .SP] [.N, .V, .U, .B, .D, .I, .Z] s ∧
    LeavesAllBut [] [.cli, .sei] [.A, .X, .Y, .SP] [.N, .V, .U, .B, .D, .Z, .C] s ∧
    LeavesAllBut [] [.cld, .sed] [.A, .X, .Y, .SP] [.N, .V, .U, .B, .I, .Z, .C] s ∧
    LeavesAllBut [] [.clv] [.A, .X, .Y, .SP] [.N, .U, .B, .D, .I, .Z, .C] s ∧
    LeavesAllBut [] [.nop] [.A, .X, .Y, .SP] allFlags s

/-- What jumps, branches, calls and returns leave unchanged (R29, R260 to R273). -/
def Obligations.FrameOfControl : Prop :=
  ∀ (b : Byte) (w : Word) (s : State),
    LeavesAllBut [] (.jmpAbs w :: (Forms.branches b).map (fun f => f.instr)) [.A, .X, .Y, .SP] allFlags s ∧
    (∀ t, exec (.jmpInd w) s = .next t →
      Leaves [.A, .X, .Y, .SP] allFlags s t ∧ SameRam s t ∧ (isIo w = false → SameDevices s t)) ∧
    LeavesAllBut [stackPlace s s.cpu.sp, stackPlace s (s.cpu.sp - 1)] [.jsr w] [.A, .X, .Y] allFlags s ∧
    LeavesAllBut [] [.rts] [.A, .X, .Y] allFlags s

/-- What the stack and system instructions leave unchanged (R29, R282 to R286, R293, R295, R502). -/
def Obligations.FrameOfStack : Prop :=
  ∀ (sig : Byte) (s : State),
    LeavesAllBut [stackPlace s s.cpu.sp] [.pha, .php] [.A, .X, .Y] allFlags s ∧
    LeavesAllBut [] [.pla] [.X, .Y] [.V, .U, .B, .D, .I, .C] s ∧
    LeavesAllBut [] [.plp, .rti] [.A, .X, .Y] [] s ∧
    LeavesAllBut [stackPlace s s.cpu.sp, stackPlace s (s.cpu.sp - 1), stackPlace s (s.cpu.sp - 2)] [.brk sig]
      [.A, .X, .Y] [.N, .V, .U, .B, .D, .Z, .C] s

/-! ### Memory and devices -/

/-- The address map: outside the soft-switch page a read changes only the bus lines and returns the byte that the
bank selection gives, and a write lands where it gives (R90 to R94, R96 to R99). -/
def Obligations.AddressMap : Prop :=
  ∀ (s : State) (a : Word) (v : Byte),
    let n := a.toNat
    let zp := if s.sw.mainZp then Bank.main else .aux
    let window := s.sw.store80 = true ∧ ((0x0400 ≤ n ∧ n ≤ 0x07FF) ∨ (s.sw.hires = true ∧ 0x2000 ≤ n ∧ n ≤ 0x3FFF))
    let page2 := if s.sw.page2 then Bank.aux else .main
    let lcoff := if s.sw.lcBnk2 then n else n - 0x1000
    (isIo a = false → memRead a s = (mappedByte s a, withBus s a (mappedByte s a) .read)) ∧
    (isIo a = false → RamStored (storedAt s a) v s (memWrite a v s)) ∧
    (n ≤ 0x01FF → mappedByte s a = ramRead s zp n ∧ storedAt s a = some (zp, n)) ∧
    (0x0200 ≤ n ∧ n ≤ 0xBFFF ∧ window → mappedByte s a = ramRead s page2 n ∧ storedAt s a = some (page2, n)) ∧
    (0x0200 ≤ n ∧ n ≤ 0xBFFF ∧ ¬window →
      mappedByte s a = ramRead s (if s.sw.rdMain then .main else .aux) n ∧
      storedAt s a = some (if s.sw.wrMain then .main else .aux, n)) ∧
    (0xC300 ≤ n ∧ n ≤ 0xC3FF → mappedByte s a = romRead s.params.sysRom (n - 0xC000)) ∧
    ((0xC100 ≤ n ∧ n ≤ 0xC2FF) ∨ (0xC400 ≤ n ∧ n ≤ 0xC7FF) →
      mappedByte s a =
        if s.sw.intCxRom then romRead s.params.sysRom (n - 0xC000)
        else if 0xC600 ≤ n ∧ n ≤ 0xC6FF then romRead s.params.bootProm (n - 0xC600)
        else 0) ∧
    (0xC800 ≤ n ∧ n ≤ 0xCFFF → mappedByte s a = romRead s.params.sysRom (n - 0xC000)) ∧
    (0xD000 ≤ n ∧ n ≤ 0xDFFF →
      mappedByte s a = (if s.sw.lcRam then ramRead s zp lcoff else romRead s.params.sysRom (n - 0xC000)) ∧
      storedAt s a = if s.sw.lcWrite then some (zp, lcoff) else none) ∧
    (0xE000 ≤ n →
      mappedByte s a = (if s.sw.lcRam then ramRead s zp n else romRead s.params.sysRom (n - 0xC000)) ∧
      storedAt s a = if s.sw.lcWrite then some (zp, n) else none)

/-- A load returns the latest store where the two addresses reach the same place, and a store leaves every byte
reached elsewhere as it was; a write to $C100 to $CFFF is dropped (R120, R86, R95). The last is the spec's
decision D16. -/
def Obligations.ReadAfterWrite : Prop :=
  ∀ (s : State) (a b : Word) (v : Byte), isIo a = false → isIo b = false →
    (∀ bank off, writePlace s.sw a.toNat = .ram bank off → readPlace s.sw b.toNat = .ram bank off →
      (memRead b (memWrite a v s)).1 = v) ∧
    ((∀ bank off, writePlace s.sw a.toNat = .ram bank off → readPlace s.sw b.toNat ≠ .ram bank off) →
      (memRead b (memWrite a v s)).1 = mappedByte s b) ∧
    (0xC100 ≤ a.toNat ∧ a.toNat ≤ 0xCFFF → memWrite a v s = withBus s a v .write)

/-- The keyboard latch, the status reads and the unlisted addresses: each returns what its rule says and changes
nothing but the bus lines; writes there do nothing (R104, R107, R111). R107 is stated in part for $C019: that a
read returns the flag where the host has supplied no draw, and the draw where it has one (`HostInputs`), is
the model's choice (log entry 5) of the form of decision D7. -/
def Obligations.StatusReads : Prop :=
  ∀ (s : State) (v : Byte),
    memRead 0xC000 s = (s.kbd, withBus s 0xC000 s.kbd .read) ∧
    (∀ e ∈
      [(0x11, s.sw.lcBnk2), (0x12, s.sw.lcRam), (0x13, !s.sw.rdMain), (0x14, !s.sw.wrMain), (0x15, s.sw.intCxRom),
        (0x16, !s.sw.mainZp), (0x17, s.sw.slotC3Rom), (0x18, s.sw.store80), (0x1A, s.sw.text), (0x1B, s.sw.mixed),
        (0x1C, s.sw.page2), (0x1D, s.sw.hires), (0x1E, s.sw.altChar), (0x1F, s.sw.vid80)],
      memRead (BitVec.ofNat 16 (0xC000 + e.1)) s =
        ((if e.2 then 0x80 else 0), withBus s (BitVec.ofNat 16 (0xC000 + e.1)) (if e.2 then 0x80 else 0) .read)) ∧
    (s.host.draws = [] →
      memRead 0xC019 s =
        ((if s.mirrors.vblank then 0x80 else 0),
          withBus s 0xC019 (if s.mirrors.vblank then 0x80 else 0) .read)) ∧
    (∀ k, 0x11 ≤ k → k ≤ 0x1F →
      memWrite (BitVec.ofNat 16 (0xC000 + k)) v s = withBus s (BitVec.ofNat 16 (0xC000 + k)) v .write) ∧
    (∀ k, (0x20 ≤ k ∧ k ≤ 0x4F) ∨ (0x58 ≤ k ∧ k ≤ 0x5D) ∨ k = 0x60 ∨ (0x64 ≤ k ∧ k ≤ 0x7E) ∨ (0x90 ≤ k ∧ k ≤ 0xFF) →
      memCtlRead (BitVec.ofNat 16 (0xC000 + k)) s = (0, s) ∧ memCtlWrite (BitVec.ofNat 16 (0xC000 + k)) v s = s ∧
      (k < 0xE0 ∨ 0xEF < k →
        memRead (BitVec.ofNat 16 (0xC000 + k)) s = (0, withBus s (BitVec.ofNat 16 (0xC000 + k)) 0 .read) ∧
        memWrite (BitVec.ofNat 16 (0xC000 + k)) v s = withBus s (BitVec.ofNat 16 (0xC000 + k)) v .write))

/-- The switches a write to $C000 to $C00F sets, whatever the data byte, and those any access to $C050 to $C057,
$C05E and $C05F sets; a read there returns 0, and a read of $C001 to $C00F sets nothing and returns 0; a read of $C07F
returns DBLHIRES and a write there does nothing (R105, R108, R109, R110). What a read of $C001 to $C00F does is the
spec's decision D13 (log entry 26). -/
def Obligations.SwitchAccesses : Prop :=
  ∀ (s : State) (v : Byte),
    (∀ e ∈
      [(0x00, { s.sw with store80 := false }), (0x01, { s.sw with store80 := true }),
        (0x02, { s.sw with rdMain := true }), (0x03, { s.sw with rdMain := false }),
        (0x04, { s.sw with wrMain := true }), (0x05, { s.sw with wrMain := false }),
        (0x06, { s.sw with intCxRom := false }), (0x07, { s.sw with intCxRom := true }),
        (0x08, { s.sw with mainZp := true }), (0x09, { s.sw with mainZp := false }),
        (0x0A, { s.sw with slotC3Rom := false }), (0x0B, { s.sw with slotC3Rom := true }),
        (0x0C, { s.sw with vid80 := false }), (0x0D, { s.sw with vid80 := true }),
        (0x0E, { s.sw with altChar := false }), (0x0F, { s.sw with altChar := true })],
      memWrite (BitVec.ofNat 16 (0xC000 + e.1)) v s =
        { withBus s (BitVec.ofNat 16 (0xC000 + e.1)) v .write with sw := e.2 }) ∧
    (∀ k, 0x01 ≤ k → k ≤ 0x0F →
      memRead (BitVec.ofNat 16 (0xC000 + k)) s = (0, withBus s (BitVec.ofNat 16 (0xC000 + k)) 0 .read)) ∧
    (∀ e ∈
      [(0x50, { s.sw with text := false }), (0x51, { s.sw with text := true }),
        (0x52, { s.sw with mixed := false }), (0x53, { s.sw with mixed := true }),
        (0x54, { s.sw with page2 := false }), (0x55, { s.sw with page2 := true }),
        (0x56, { s.sw with hires := false }), (0x57, { s.sw with hires := true }),
        (0x5E, { s.sw with dblHires := true }), (0x5F, { s.sw with dblHires := false })],
      memRead (BitVec.ofNat 16 (0xC000 + e.1)) s =
        (0, { withBus s (BitVec.ofNat 16 (0xC000 + e.1)) 0 .read with sw := e.2 }) ∧
      memWrite (BitVec.ofNat 16 (0xC000 + e.1)) v s =
        { withBus s (BitVec.ofNat 16 (0xC000 + e.1)) v .write with sw := e.2 }) ∧
    memRead 0xC07F s =
      ((if s.sw.dblHires then 0x80 else 0), withBus s 0xC07F (if s.sw.dblHires then 0x80 else 0) .read) ∧
    memWrite 0xC07F v s = withBus s 0xC07F v .write

/-- The pre-arm half of the language card: a read of an odd $C08x moves `preWrite` into LCWRITE and sets it, a
write leaves LCWRITE and clears it; so two reads in a row set LCWRITE, and one read with the latch clear
clears it (R113). -/
def Obligations.TwoReadHandshake : Prop :=
  ∀ (s : State) (v : Byte) (x y : Nat), x < 16 → y < 16 → x % 2 = 1 → y % 2 = 1 →
    let r := (memRead (BitVec.ofNat 16 (0xC080 + x)) s).2
    let w := memWrite (BitVec.ofNat 16 (0xC080 + x)) v s
    r.sw.lcWrite = s.sw.preWrite ∧ r.sw.preWrite = true ∧ w.sw.lcWrite = s.sw.lcWrite ∧ w.sw.preWrite = false ∧
    (memRead (BitVec.ofNat 16 (0xC080 + y)) r).2.sw.lcWrite = true ∧ (s.sw.preWrite = false → r.sw.lcWrite = false)

/-- The sixteen language-card addresses, read and written: every switch they set, and that they set no other and
return 0 (R112 to R115). That bit 2 of the address is ignored and that an even address clears `preWrite` are
the spec's decisions D14 and D15. -/
def Obligations.LanguageCardTable : Prop :=
  ∀ (s : State) (v : Byte) (x : Nat), x < 16 →
    let a := BitVec.ofNat 16 (0xC080 + x)
    let bnk2 := decide (x < 8)
    let ram := decide (x % 4 = 0 ∨ x % 4 = 3)
    memRead a s =
      (0,
        { withBus s a 0 .read with
          sw :=
            { s.sw with
              lcBnk2 := bnk2
              lcRam := ram
              lcWrite := decide (x % 2 = 1) && s.sw.preWrite
              preWrite := decide (x % 2 = 1) } }) ∧
    memWrite a v s =
      { withBus s a v .write with
        sw :=
          { s.sw with
            lcBnk2 := bnk2
            lcRam := ram
            lcWrite := decide (x % 2 = 1) && s.sw.lcWrite
            preWrite := false } }

/-- The keyboard strobe, and the four input mirrors: $C010 clears the key-ready bit on either access; a read of a
mirror returns $80 or 0 by the host's next draw, or by the flag where no draw is supplied, and no access
changes a mirror (R42, R106, R110). The draws are the model's form of the spec's decision D7 (log entry 5); that a
read of $C010 returns 0 is its decision D13 (log entry 26). -/
def Obligations.HostInputs : Prop :=
  ∀ (s : State) (v : Byte),
    memRead 0xC010 s = (0, { withBus s 0xC010 0 .read with kbd := s.kbd &&& 0x7F }) ∧
    memWrite 0xC010 v s = { withBus s 0xC010 v .write with kbd := s.kbd &&& 0x7F } ∧
    (∀ e ∈
      [(0x19, s.mirrors.vblank), (0x61, s.mirrors.openApple), (0x62, s.mirrors.filledApple), (0x63, s.mirrors.shift)],
      let a := BitVec.ofNat 16 (0xC000 + e.1)
      (s.host.draws = [] → memRead a s = ((if e.2 then 0x80 else 0), withBus s a (if e.2 then 0x80 else 0) .read)) ∧
      (∀ d rest, s.host.draws = d :: rest →
        memRead a s =
          ((if d then 0x80 else 0),
            { withBus s a (if d then 0x80 else 0) .read with host := { s.host with draws := rest } })) ∧
      memWrite a v s = withBus s a v .write) ∧
    ∀ a : Word, (memRead a s).2.mirrors = s.mirrors ∧ (memWrite a v s).mirrors = s.mirrors

/-- The host's events: a key is taken only when the key-ready bit is clear, the named keys send their codes, a
modifier drives its mirror, Control and the two picture settings change nothing but themselves, the Reset key
resets only while Control is held, only a diskette of the right size goes in, and none of the drive events
touches the controller's other state (R416, R470, R515). That Control is kept in the state is the model's choice
(log entry 20); that an image of another size leaves the state as it was is the model's inference from R416
(log entry 16). -/
def Obligations.HostEventResult : Prop :=
  ∀ s : State,
    (∀ ascii : BitVec 7,
      (s.kbd.getLsbD 7 = false →
        hostEvent (.keyDown ascii) s = { s with kbd := BitVec.ofNat 8 (0x80 + ascii.toNat) }) ∧
      (s.kbd.getLsbD 7 = true → hostEvent (.keyDown ascii) s = s)) ∧
    (∀ code : Byte, hostEvent (.printableKey code) s = hostEvent (.keyDown (BitVec.ofNat 7 (code.toNat % 128))) s) ∧
    (∀ e ∈
      [(NamedKey.left, 0x08), (.right, 0x15), (.up, 0x0B), (.down, 0x0A), (.escape, 0x1B), (.return, 0x0D),
        (.delete, 0x7F)],
      hostEvent (.namedKey e.1) s = hostEvent (.keyDown e.2) s) ∧
    (∀ b : Bool,
      hostEvent (.modifierKey .shift b) s = { s with mirrors := { s.mirrors with shift := b } } ∧
      hostEvent (.modifierKey .openApple b) s = { s with mirrors := { s.mirrors with openApple := b } } ∧
      hostEvent (.modifierKey .filledApple b) s = { s with mirrors := { s.mirrors with filledApple := b } }) ∧
    (∀ b : Bool,
      hostEvent (.controlKey b) s = { s with host := { s.host with controlHeld := b } } ∧
      hostEvent (.setColor b) s = { s with host := { s.host with colorEnabled := b } }) ∧
    (∀ index : BitVec 4, hostEvent (.setMonoColor index) s = { s with host := { s.host with monoColor := index } }) ∧
    (s.host.controlHeld = false → hostEvent .resetKey s = s) ∧
    (s.host.controlHeld = true → hostEvent .resetKey s = warmReset s) ∧
    (∀ img : DiskImage,
      (img.size ≠ 143360 → ∀ drive, hostEvent (.insertDisk drive img) s = s) ∧
      (img.wf = true →
        hostEvent (.insertDisk false img) s = { s with disk := { s.disk with disk1 := some img } } ∧
        hostEvent (.insertDisk true img) s = { s with disk := { s.disk with disk2 := some img } })) ∧
    hostEvent (.ejectDisk false) s = { s with disk := { s.disk with disk1 := none } } ∧
    hostEvent (.ejectDisk true) s = { s with disk := { s.disk with disk2 := none } }

/-! ### Disk II -/

/-- The stepper, the motor-off switch and drive selection, on either kind of access: a phase-off access does
nothing; phase n on moves the head by one track inward from phase n - 1 and outward from phase n + 1 (modulo 4),
clamped to 0 and 34, and not otherwise; $C0E8 stops the motor and clears fast mode; $C0EA and $C0EB select the drive
(R403, R404, R408, R410). That a write acts as a read does is the spec's decision D20 (R400, log entry 27). -/
def Obligations.DiskSwitches : Prop :=
  ∀ (s : State) (v : Byte),
    (∀ k < 4, ∀ t ∈ accesses (BitVec.ofNat 16 (0xC0E0 + 2 * k)) v s, t.disk = s.disk) ∧
    (∀ n : Fin 4, ∀ t ∈ accesses (BitVec.ofNat 16 (0xC0E1 + 2 * n.val)) v s,
      t.disk = { s.disk with phase := n, track := t.disk.track } ∧
      t.disk.track.val =
        if s.disk.phase.val = (n.val + 3) % 4 then min (s.disk.track.val + 1) 34
        else if s.disk.phase.val = (n.val + 1) % 4 then s.disk.track.val - 1
        else s.disk.track.val) ∧
    (∀ t ∈ accesses 0xC0E8 v s, t.disk = { s.disk with motorOn := false } ∧ t.bus.fastMode = false) ∧
    (∀ t ∈ accesses 0xC0EA v s, t.disk = { s.disk with drive2 := false }) ∧
    (∀ t ∈ accesses 0xC0EB v s, t.disk = { s.disk with drive2 := true })

/-- The read pulse at $C0EC, and the addresses around it: it returns the latch as it was and then loads the next
stream byte, if Q6 and Q7 are clear, the motor is on and the selected drive holds a diskette, and 0 if not; it
clears Q6. $C0E9 starts the motor, and sets fast mode if a diskette is in; $C0ED, $C0EE, $C0EF drive Q6 and Q7.
The even addresses but $C0E0 and $C0EE return the latch and the others 0 (R401, R407, R409, R411 to R413).
The order of the pulse and the reading of $C0E9 are the spec's decisions D21 and D18, and that a write acts as a
read does is its decision D20 (R400, R402; log entry 27). -/
def Obligations.ReadPulse : Prop :=
  ∀ (s : State) (v : Byte),
    let d := s.disk
    let img := if d.drive2 then d.disk2 else d.disk1
    (memRead 0xC0EC s).1 = d.dataLatch ∧
    (∀ t ∈ accesses 0xC0EC v s,
      (∀ i, img = some i → d.q6 = false → d.q7 = false → d.motorOn = true →
        t.disk =
          { d with
            dataLatch := (trackStream s.params.volume i d.track.val).getD d.pos.val 0
            pos := Fin.ofNat 6656 (d.pos.val + 1)
            q6 := false }) ∧
      (img = none ∨ d.q6 = true ∨ d.q7 = true ∨ d.motorOn = false → t.disk = { d with dataLatch := 0, q6 := false })) ∧
    (∀ t ∈ accesses 0xC0E9 v s,
      t.disk = { d with motorOn := true } ∧
      t.bus.fastMode = (d.disk1.isSome || d.disk2.isSome || s.bus.fastMode)) ∧
    (∀ t ∈ accesses 0xC0ED v s, t.disk = { d with q6 := true }) ∧
    (∀ t ∈ accesses 0xC0EE v s, t.disk = { d with q7 := false }) ∧
    (∀ t ∈ accesses 0xC0EF v s, t.disk = { d with q7 := true }) ∧
    (∀ n ∈ [0x2, 0x4, 0x6, 0x8, 0xA, 0xC], (memRead (BitVec.ofNat 16 (0xC0E0 + n)) s).1 = d.dataLatch) ∧
    (∀ n ∈ [0x0, 0x1, 0x3, 0x5, 0x7, 0x9, 0xB, 0xD, 0xE, 0xF], (memRead (BitVec.ofNat 16 (0xC0E0 + n)) s).1 = 0)

/-- The encoder's round trip: every track is 6656 bytes; in every sector record the address field's checksum is
volume xor track xor sector; the data field decodes back to the image's bytes, its checksum good; and every
byte of the image is one of those (R433). -/
def Obligations.GcrRoundTrip : Prop :=
  ∀ (vol : Byte) (img : DiskImage),
    (∀ t < 35, (trackStream vol img t).length = 6656) ∧
    (∀ t < 35, ∀ sec < 16,
      let field := fun k => (trackStream vol img t).getD (sec * 416 + 51 + k) 0
      let data := fun k => (trackStream vol img t).getD (sec * 416 + 70 + k) 0
      decode44 (field 0) (field 1) = vol ∧ decode44 (field 2) (field 3) = BitVec.ofNat 8 t ∧
      decode44 (field 4) (field 5) = BitVec.ofNat 8 sec ∧
      decode44 (field 6) (field 7) = vol ^^^ BitVec.ofNat 8 t ^^^ BitVec.ofNat 8 sec ∧
      dataFieldGood data = true ∧ ∀ i < 256, recoverByte data i = img.byte ((t * 16 + interleave.getD sec 0) * 256 + i)) ∧
    ∀ j < 143360, ∃ t < 35, ∃ sec < 16, ∃ i < 256, (t * 16 + interleave.getD sec 0) * 256 + i = j

/-- Every byte of every track stream has bit 7 set (R421). -/
def Obligations.TrackBytesHaveBit7 : Prop :=
  ∀ (vol : Byte) (img : DiskImage) (t : Nat), t < 35 → ∀ b ∈ trackStream vol img t, b.getLsbD 7 = true

/-! ### Reset, the sequencer, the picture -/

/-- What a warm Reset leaves in the memory and disk controllers, and the mapping that follows from it: all RAM in
main, $C100 to $C7FF reading 0 but the boot PROM and the firmware page, $D000 up reading ROM and write-protected,
lo-res page 1 on display (R542, R543). That RAM, KBD, `phase`, `track`, `pos` and the diskettes are kept are the spec's
decisions D5, D6 and D8 (R37, R39, R43; log entries 26 and 27). -/
def Obligations.ResetOfDevices : Prop :=
  ∀ s : State,
    let t := warmReset s
    t.sw = Switches.atReset ∧
    t.sw.rdMain = true ∧ t.sw.wrMain = true ∧ t.sw.mainZp = true ∧ t.sw.store80 = false ∧ t.sw.intCxRom = false ∧
    t.sw.slotC3Rom = false ∧ t.sw.vid80 = false ∧ t.sw.altChar = false ∧ t.sw.text = false ∧ t.sw.mixed = false ∧
    t.sw.page2 = false ∧ t.sw.hires = false ∧ t.sw.dblHires = false ∧ t.sw.lcRam = false ∧ t.sw.lcBnk2 = false ∧
    t.sw.lcWrite = false ∧ t.sw.preWrite = false ∧
    t.main = s.main ∧ t.aux = s.aux ∧ t.kbd = s.kbd ∧ t.params = s.params ∧
    (t.disk.dataLatch = 0 ∧ t.disk.q6 = false ∧ t.disk.q7 = false ∧ t.disk.drive2 = false ∧
      t.disk.motorOn = false ∧ t.bus.fastMode = false) ∧
    (t.disk.phase = s.disk.phase ∧ t.disk.track = s.disk.track ∧ t.disk.pos = s.disk.pos ∧
      t.disk.disk1 = s.disk.disk1 ∧ t.disk.disk2 = s.disk.disk2) ∧
    ∀ a : Word,
      (a.toNat ≤ 0xBFFF → mappedByte t a = s.main.read a.toNat ∧ storedAt t a = some (.main, a.toNat)) ∧
      (0xC100 ≤ a.toNat ∧ a.toNat ≤ 0xC7FF →
        mappedByte t a =
          if 0xC300 ≤ a.toNat ∧ a.toNat ≤ 0xC3FF then romRead s.params.sysRom (a.toNat - 0xC000)
          else if 0xC600 ≤ a.toNat ∧ a.toNat ≤ 0xC6FF then romRead s.params.bootProm (a.toNat - 0xC600)
          else 0) ∧
      (0xD000 ≤ a.toNat → mappedByte t a = romRead s.params.sysRom (a.toNat - 0xC000) ∧ storedAt t a = none) ∧
      displayMode (gpuMemory t) (a.toNat % 24) = .lores40 ∧ (gpuMemory t).startAddr = 0x0400

/-- What a warm Reset leaves in the CPU, and what it keeps: the vector is read under the mapping the program left
behind, before the switches are reset; `cycleCount`, the frame count and the diskettes stay
(R540, R544, R546). The order and the kept values are the spec's decisions D30, D3, D8. -/
def Obligations.WarmResetResult : Prop :=
  ∀ s : State,
    (warmReset s).cpu =
      { s.cpu with
        a := 0, x := 0, y := 0, sp := 0xFD, p := 0x24
        pc := wordOf (mappedByte s 0xFFFD) (mappedByte s 0xFFFC) } ∧
    (warmReset s).seq = s.seq ∧ (warmReset s).host = s.host ∧ (warmReset s).params = s.params ∧
    (warmReset s).disk.phase = s.disk.phase ∧ (warmReset s).disk.track = s.disk.track ∧
    (warmReset s).disk.pos = s.disk.pos ∧ (warmReset s).disk.disk1 = s.disk.disk1 ∧
    (warmReset s).disk.disk2 = s.disk.disk2

/-- Power-on: the Reset procedure, run on the assembled machine, gives the reset state, whose registers, switches,
latches and RAM bytes are those of R47; PC is the ROM's vector. The values of `cycleCount`, KBD, the head position and
`frame_cycles` are the spec's decisions D3, D6, D8 and D9; those of the bus lines and `al`, which the first clause
takes in, are log entries 8 and 9. -/
def Obligations.PowerOnReset : Prop :=
  ∀ p : Params,
    resetProcedure (powerOn p) = State.resetWith p ∧
    (let s := State.resetWith p
    s.cpu.a = 0 ∧ s.cpu.x = 0 ∧ s.cpu.y = 0 ∧ s.cpu.sp = 0xFD ∧ s.cpu.p = 0x24 ∧ s.cpu.cycleCount = 0 ∧
    s.cpu.pc = wordOf (romRead p.sysRom 0x3FFD) (romRead p.sysRom 0x3FFC) ∧ s.kbd = 0 ∧ s.sw = Switches.atReset ∧
    s.mirrors = ⟨false, false, false, false⟩ ∧ s.disk = Disk.atPowerOn ∧ s.bus.fastMode = false ∧
    s.seq.frameCycles = 0 ∧
    ∀ a, s.main.read a = (if a % 4 < 2 then 0xFF else 0) ∧ s.aux.read a = (if a % 4 < 2 then 0xFF else 0))

/-- The frame sequencer: VBLANK is set at the start of a run and at a frame end, cleared from 4550 cycles on; the
count restarts at a frame end; nothing else changes, and a picture is handed over exactly at a frame end with fast
mode clear (R510 to R512). The granularity and the polarity are the spec's decisions D32 and D22. -/
def Obligations.FrameSequencer : Prop :=
  ∀ (n : Nat) (s : State),
    let c := s.seq.frameCycles + n
    (c < 4550 → afterTick n s = { s with seq := { s.seq with frameCycles := c } }) ∧
    (4550 ≤ c ∧ c < 17030 →
      afterTick n s =
        { s with seq := { s.seq with frameCycles := c }, mirrors := { s.mirrors with vblank := false } }) ∧
    (17030 ≤ c →
      afterTick n s =
        { s with seq := { s.seq with frameCycles := 0 }, mirrors := { s.mirrors with vblank := true } }) ∧
    (deliveredFrame n s =
      if 17030 ≤ c ∧ s.bus.fastMode = false then some (render (renderSettings s) (gpuMemory s)) else none) ∧
    (s.seq.running = false →
      startOfRun s = { s with seq := ⟨0, true⟩, mirrors := { s.mirrors with vblank := true } }) ∧
    (s.seq.running = true → startOfRun s = s)

/-- The picture: every display line is drawn twice, and no byte of RAM outside $0400 to $0BFF and $2000 to $5FFF
can change it (R472). -/
def Obligations.PictureDependsOnDisplayPages : Prop :=
  (∀ (rs : RenderSettings) (g : Gpu) (line x : Nat),
    paletteIndex rs g (2 * line) x = paletteIndex rs g (2 * line + 1) x) ∧
  ∀ (s : State) (main aux : Memory),
    (∀ a, (0x0400 ≤ a ∧ a ≤ 0x0BFF) ∨ (0x2000 ≤ a ∧ a ≤ 0x5FFF) →
      main.read a = s.main.read a ∧ aux.read a = s.aux.read a) →
    render (renderSettings s) (gpuMemory { s with main := main, aux := aux }) =
      render (renderSettings s) (gpuMemory s)

/-- 40-column lo-res: in text row r, column c, the cell's upper 8 rows of 14 columns take the byte's lower nibble and
its lower 8 rows the upper nibble (R463). -/
def Obligations.LoresPicture : Prop :=
  ∀ (rs : RenderSettings) (g : Gpu) (r c y x : Nat), r < 24 → c < 40 → y < 16 → x < 14 →
    displayMode g r = .lores40 →
    (paletteIndex rs g (16 * r + y) (14 * c + x)).toNat =
      if y < 8 then (g.primary.read (g.startAddr + rowOffset r + c)).toNat % 16
      else (g.primary.read (g.startAddr + rowOffset r + c)).toNat / 16
end

