-- ==== Sys2Proof/Laws/Flags.lean ====
section
/-! SUPPORT. The laws of P: a flag read after a flag write, and the flags of each computation. -/

namespace Sys2Proof.Machine

/-- A flag read back after any flag is written. -/
@[simp] theorem getFlag_setFlag (p : Byte) (f g : Flag) (b : Bool) :
    getFlag (setFlag p f b) g = if f = g then b else getFlag p g := by
  cases f <;> cases g <;> cases b <;> simp [getFlag, setFlag, Flag.bit, Flag.mask]

/-- Two status bytes with the same flags are equal. -/
theorem flags_ext {p q : Byte} (h : ∀ f, getFlag p f = getFlag q f) : p = q := by
  apply BitVec.eq_of_getLsbD_eq
  intro i hi
  interval_cases i
  · exact h .C
  · exact h .Z
  · exact h .I
  · exact h .D
  · exact h .B
  · exact h .U
  · exact h .V
  · exact h .N

/-- The flags after `setNZ` (R32). -/
@[simp] theorem getFlag_setNZ (v p : Byte) (f : Flag) :
    getFlag (setNZ v p) f = if f = .Z then (v == 0) else if f = .N then v.getLsbD 7 else getFlag p f := by
  unfold setNZ
  cases f <;> simp

@[simp] theorem signTest_zero : ∀ v : Byte, (v &&& 128#8 == 0#8) = !v.msb := by decide

@[simp] theorem signTest_ne : ∀ v : Byte, (v &&& 128#8 != 0#8) = v.msb := by decide

theorem carryIn_cases (p : Byte) : carryIn p = 0 ∨ carryIn p = 1 := by
  unfold carryIn
  split <;> simp

@[simp] theorem getFlag_pushedStatus (p : Byte) (f : Flag) :
    getFlag (pushedStatus p) f = if f = .B then true else getFlag p f := by
  cases f <;> simp [getFlag, pushedStatus, Flag.bit]

@[simp] theorem getFlag_pulledStatus (v : Byte) (f : Flag) :
    getFlag (pulledStatus v) f = if f = .B then false else if f = .U then true else getFlag v f := by
  cases f <;> simp [getFlag, pulledStatus, Flag.bit]

end Sys2Proof.Machine
end

