-- ==== Sys2Proof/Laws/Gcr.lean ====
section
/-! SUPPORT. The pieces of the track encoder and their inverses (spec/46_disk2_gcr.md R423 to R428). -/

namespace Sys2Proof.Machine

theorem untranslate62_translate62 : ∀ v : BitVec 6, untranslate62 (translate62 v) = some v := by decide

theorem decode44_encode44 : ∀ v : Byte, decode44 (encode44 v).1 (encode44 v).2 = v := by decide

theorem translate62_bit7 : ∀ v : BitVec 6, (translate62 v).getLsbD 7 = true := by decide

theorem encode44_bit7 : ∀ v : Byte, (encode44 v).1.getLsbD 7 = true ∧ (encode44 v).2.getLsbD 7 = true := by decide

theorem recoverSixBit_succ (inp : Nat → Byte) (k : Nat) :
    recoverSixBit inp (k + 1) = (untranslate62 (inp (k + 1))).getD 0 ^^^ recoverSixBit inp k := rfl

theorem dataField_zero (d : Nat → Byte) : dataField d 0 = translate62 (sixBit d 0) := rfl

theorem dataField_succ (d : Nat → Byte) {k : Nat} (h : k + 1 ≤ 341) :
    dataField d (k + 1) = translate62 (sixBit d (k + 1) ^^^ sixBit d k) := by
  unfold dataField
  rw [if_neg (by omega), if_pos h]
  rfl

theorem dataField_last (d : Nat → Byte) : dataField d 342 = translate62 (sixBit d 341) := rfl

/-- Where the bytes are a data field of `d`, the running exclusive-or recovers its six-bit values (R428). -/
theorem recoverSixBit_dataField (d inp : Nat → Byte) (h : ∀ k < 343, inp k = dataField d k) :
    ∀ k ≤ 341, recoverSixBit inp k = sixBit d k
  | 0, _ => by
    simp only [recoverSixBit]
    rw [h 0 (by omega), dataField_zero, untranslate62_translate62]
    rfl
  | k + 1, hk => by
    rw [recoverSixBit_succ, recoverSixBit_dataField d inp h k (by omega), h (k + 1) (by omega), dataField_succ d hk,
      untranslate62_translate62, Option.getD_some, BitVec.xor_assoc, BitVec.xor_self, BitVec.xor_zero]

theorem trackStream_getD (vol : Byte) (img : DiskImage) (t : Nat) {p : Nat} (h : p < 6656) :
    (trackStream vol img t).getD p 0 = trackByte vol img t p := by
  simp [trackStream, List.getD, h]

/-- Byte `off` of the sector record at position `sec` of a track. -/
theorem trackStream_sector (vol : Byte) (img : DiskImage) (t : Nat) {sec off : Nat} (hs : sec < 16) (ho : off < 416) :
    (trackStream vol img t).getD (sec * 416 + off) 0 =
      sectorByte vol (BitVec.ofNat 8 t) (BitVec.ofNat 8 sec) (fun i => img.byte (sectorOffset t sec i)) off := by
  have e1 : (sec * 416 + off) / 416 = sec := by omega
  have e2 : (sec * 416 + off) % 416 = off := by omega
  rw [trackStream_getD vol img t (by omega)]
  unfold trackByte
  rw [e1, e2]

end Sys2Proof.Machine
end

