-- ==== Sys2Proof/Laws/Memory.lean ====
section
/-! SUPPORT. The laws of sparse stores: a read after a write, and the canonical form. -/

namespace Sys2Proof.Machine

variable {d : Nat → Byte}

theorem Cells.read_erase_self (a : Nat) (m : Cells) : Cells.read d a (Cells.erase a m) = d a := by
  induction m with
  | nil => rfl
  | cons c rest ih =>
    obtain ⟨b, w⟩ := c
    by_cases h : a = b
    · simpa [Cells.erase, h] using h ▸ ih
    · simpa [Cells.erase, Cells.read, h] using ih

theorem Cells.read_erase_other {a b : Nat} (h : b ≠ a) (m : Cells) :
    Cells.read d b (Cells.erase a m) = Cells.read d b m := by
  induction m with
  | nil => rfl
  | cons c rest ih =>
    obtain ⟨k, w⟩ := c
    by_cases hk : a = k
    · subst hk; simpa [Cells.erase, Cells.read, h] using ih
    · simp [Cells.erase, Cells.read, hk, ih]

theorem Cells.read_place_self (a : Nat) (v : Byte) (m : Cells) :
    Cells.read d a (Cells.place a v (Cells.erase a m)) = v := by
  induction m with
  | nil => simp [Cells.erase, Cells.place, Cells.read]
  | cons c rest ih =>
    obtain ⟨k, w⟩ := c
    by_cases hk : a = k
    · simpa [Cells.erase, hk] using hk ▸ ih
    · by_cases hl : a < k <;> simp [Cells.erase, Cells.place, Cells.read, hk, hl, ih]

theorem Cells.read_place_other {a b : Nat} (h : b ≠ a) (v : Byte) (m : Cells) :
    Cells.read d b (Cells.place a v m) = Cells.read d b m := by
  induction m with
  | nil => simp [Cells.place, Cells.read, h]
  | cons c rest ih =>
    obtain ⟨k, w⟩ := c
    by_cases hl : a < k <;> simp [Cells.place, Cells.read, hl, h, ih]

/-- Reading the address just written gives the byte written. -/
@[simp] theorem Cells.read_write_self (a : Nat) (v : Byte) (m : Cells) :
    Cells.read d a (Cells.write d a v m) = v := by
  unfold Cells.write
  split
  · next h => rw [Cells.read_erase_self, h]
  · exact Cells.read_place_self a v m

/-- A write leaves every other address alone. -/
theorem Cells.read_write_other {a b : Nat} (h : b ≠ a) (v : Byte) (m : Cells) :
    Cells.read d b (Cells.write d a v m) = Cells.read d b m := by
  unfold Cells.write
  split
  · exact Cells.read_erase_other h m
  · rw [Cells.read_place_other h, Cells.read_erase_other h]

theorem Cells.wfFrom_cons {bound lo a : Nat} {v : Byte} {rest : Cells} :
    Cells.wfFrom d bound lo ((a, v) :: rest) = true ↔
      lo ≤ a ∧ a < bound ∧ v ≠ d a ∧ Cells.wfFrom d bound (a + 1) rest = true := by
  simp [Cells.wfFrom, and_assoc]

theorem Cells.wfFrom_mono {bound lo lo' : Nat} (h : lo' ≤ lo) {m : Cells}
    (hm : Cells.wfFrom d bound lo m = true) : Cells.wfFrom d bound lo' m = true := by
  cases m with
  | nil => rfl
  | cons c rest =>
    obtain ⟨k, w⟩ := c
    rw [Cells.wfFrom_cons] at hm ⊢
    exact ⟨h.trans hm.1, hm.2⟩

theorem Cells.wfFrom_erase {bound lo a : Nat} {m : Cells} (hm : Cells.wfFrom d bound lo m = true) :
    Cells.wfFrom d bound lo (Cells.erase a m) = true := by
  induction m generalizing lo with
  | nil => rfl
  | cons c rest ih =>
    obtain ⟨k, w⟩ := c
    rw [Cells.wfFrom_cons] at hm
    by_cases hk : a = k
    · simp only [Cells.erase, hk, if_true]
      exact Cells.wfFrom_mono (by omega) (hk ▸ ih hm.2.2.2)
    · simp only [Cells.erase, hk, if_false]
      exact Cells.wfFrom_cons.2 ⟨hm.1, hm.2.1, hm.2.2.1, ih hm.2.2.2⟩

theorem Cells.wfFrom_place {bound lo a : Nat} {v : Byte} (hlo : lo ≤ a) (ha : a < bound) (hv : v ≠ d a)
    {m : Cells} (hm : Cells.wfFrom d bound lo m = true) :
    Cells.wfFrom d bound lo (Cells.place a v (Cells.erase a m)) = true := by
  induction m generalizing lo with
  | nil => simpa [Cells.erase, Cells.place, Cells.wfFrom, hv] using ⟨hlo, ha⟩
  | cons c rest ih =>
    obtain ⟨k, w⟩ := c
    rw [Cells.wfFrom_cons] at hm
    by_cases hk : a = k
    · simp only [Cells.erase, hk, if_true]
      exact hk ▸ ih hlo (Cells.wfFrom_mono (by omega) hm.2.2.2)
    · by_cases hl : a < k
      · simp only [Cells.erase, Cells.place, hk, hl, if_true, if_false]
        exact Cells.wfFrom_cons.2 ⟨hlo, ha, hv, Cells.wfFrom_cons.2
          ⟨by omega, hm.2.1, hm.2.2.1, Cells.wfFrom_erase hm.2.2.2⟩⟩
      · simp only [Cells.erase, Cells.place, hk, hl, if_false]
        exact Cells.wfFrom_cons.2 ⟨hm.1, hm.2.1, hm.2.2.1, ih (by omega) hm.2.2.2⟩

/-- A write within the bound keeps the canonical form. -/
theorem Cells.wf_write {bound a : Nat} (ha : a < bound) (v : Byte) {m : Cells} (hm : Cells.wf d bound m = true) :
    Cells.wf d bound (Cells.write d a v m) = true := by
  unfold Cells.write
  split
  · exact Cells.wfFrom_erase hm
  · next hv => exact Cells.wfFrom_place (Nat.zero_le a) ha hv hm

theorem Cells.read_below {bound lo a : Nat} (h : a < lo) {m : Cells} (hm : Cells.wfFrom d bound lo m = true) :
    Cells.read d a m = d a := by
  induction m generalizing lo with
  | nil => rfl
  | cons c rest ih =>
    obtain ⟨k, w⟩ := c
    rw [Cells.wfFrom_cons] at hm
    have hk : a ≠ k := by omega
    simpa [Cells.read, hk] using ih (by omega) hm.2.2.2

/-- Two stores in canonical form that read alike are equal. -/
theorem Cells.ext_of_wfFrom {bound lo : Nat} {m n : Cells} (hm : Cells.wfFrom d bound lo m = true)
    (hn : Cells.wfFrom d bound lo n = true) (h : ∀ a, Cells.read d a m = Cells.read d a n) : m = n := by
  induction m generalizing lo n with
  | nil =>
    cases n with
    | nil => rfl
    | cons c rest =>
      obtain ⟨k, w⟩ := c
      rw [Cells.wfFrom_cons] at hn
      exact absurd (by simpa [Cells.read] using (h k).symm) hn.2.2.1
  | cons c rest ih =>
    obtain ⟨k, w⟩ := c
    cases n with
    | nil =>
      rw [Cells.wfFrom_cons] at hm
      exact absurd (by simpa [Cells.read] using h k) hm.2.2.1
    | cons c' rest' =>
      obtain ⟨k', w'⟩ := c'
      rw [Cells.wfFrom_cons] at hm hn
      have hkk : k = k' := by
        rcases Nat.lt_trichotomy k k' with hl | he | hl
        · have := h k
          rw [Cells.read, if_pos rfl, Cells.read, if_neg (by omega), Cells.read_below (by omega) hn.2.2.2] at this
          exact absurd this hm.2.2.1
        · exact he
        · have := h k'
          rw [Cells.read, if_neg (by omega), Cells.read, if_pos rfl, Cells.read_below (by omega) hm.2.2.2] at this
          exact absurd this.symm hn.2.2.1
      subst hkk
      have hw : w = w' := by simpa [Cells.read] using h k
      subst hw
      congr 1
      refine ih hm.2.2.2 hn.2.2.2 fun a => ?_
      by_cases ha : a = k
      · subst ha
        rw [Cells.read_below (by omega) hm.2.2.2, Cells.read_below (by omega) hn.2.2.2]
      · simpa [Cells.read, ha] using h a

@[simp] theorem Memory.read_write_self (m : Memory) (a : Nat) (v : Byte) : (m.write a v).read a = v :=
  Cells.read_write_self a v m

theorem Memory.read_write_other (m : Memory) {a b : Nat} (h : b ≠ a) (v : Byte) :
    (m.write a v).read b = m.read b :=
  Cells.read_write_other h v m

/-- A store into a RAM bank keeps its canonical form. -/
theorem Memory.wf_write {m : Memory} {a : Nat} (ha : a < 65536) (v : Byte) (hm : m.wf = true) :
    (m.write a v).wf = true :=
  Cells.wf_write ha v hm

/-- Equal RAM contents are equal data. -/
theorem Memory.ext_of_wf {m n : Memory} (hm : m.wf = true) (hn : n.wf = true) (h : ∀ a, m.read a = n.read a) : m = n :=
  Cells.ext_of_wfFrom hm hn h

end Sys2Proof.Machine
end

