-- ==== Sys2Proof/Laws/Ops.lean ====
section
/-! SUPPORT. One lemma per shared operation: everything it can do. -/

namespace Sys2Proof.Machine

/-! ### Words -/

theorem wordOf_toNat (h l : Byte) : (wordOf h l).toNat = h.toNat * 256 + l.toNat := by
  unfold wordOf
  rw [BitVec.toNat_append, ← Nat.shiftLeft_add_eq_or_of_lt l.isLt, Nat.shiftLeft_eq]

theorem hiByte_toNat (w : Word) : (hiByte w).toNat = w.toNat / 256 := by
  have := w.isLt
  simp only [hiByte, BitVec.extractLsb'_toNat, Nat.shiftRight_eq_div_pow]
  omega

theorem loByte_toNat (w : Word) : (loByte w).toNat = w.toNat % 256 := by
  simp [loByte, BitVec.extractLsb'_toNat]

theorem zext16_toNat (b : Byte) : (zext16 b).toNat = b.toNat := by
  have := b.isLt
  simp only [zext16, BitVec.toNat_setWidth]
  omega

@[simp] theorem hiByte_wordOf (h l : Byte) : hiByte (wordOf h l) = h := by
  apply BitVec.eq_of_toNat_eq
  rw [hiByte_toNat, wordOf_toNat]
  have := l.isLt
  omega

@[simp] theorem loByte_wordOf (h l : Byte) : loByte (wordOf h l) = l := by
  apply BitVec.eq_of_toNat_eq
  rw [loByte_toNat, wordOf_toNat]
  have := l.isLt
  omega

@[simp] theorem wordOf_hiByte_loByte (w : Word) : wordOf (hiByte w) (loByte w) = w := by
  apply BitVec.eq_of_toNat_eq
  rw [wordOf_toNat, hiByte_toNat, loByte_toNat]
  omega

@[simp] theorem loByte_zext16 (b : Byte) : loByte (zext16 b) = b := by
  apply BitVec.eq_of_toNat_eq
  rw [loByte_toNat, zext16_toNat]
  have := b.isLt
  omega

theorem stackAddr_toNat (sp : Byte) : (stackAddr sp).toNat = 256 + sp.toNat := by
  unfold stackAddr
  rw [wordOf_toNat]; rfl

/-! ### Frames -/

theorem BusFrame.refl (s : State) : BusFrame s s := ⟨rfl, rfl, rfl, rfl, rfl, rfl, rfl, rfl, rfl, rfl, rfl⟩

theorem BusFrame.trans {s t u : State} (h : BusFrame s t) (k : BusFrame t u) : BusFrame s u :=
  ⟨k.cpu.trans h.cpu, k.mirrors.trans h.mirrors, k.seq.trans h.seq, k.params.trans h.params,
    k.freeCount.trans h.freeCount, k.disk1.trans h.disk1, k.disk2.trans h.disk2, k.schedule.trans h.schedule,
    k.controlHeld.trans h.controlHeld, k.colorEnabled.trans h.colorEnabled, k.monoColor.trans h.monoColor⟩

/-! ### Soft switches and disk -/

theorem drawMirror_frame (b : Bool) (s : State) :
    BusFrame s (drawMirror b s).2 ∧ (drawMirror b s).2.main = s.main ∧ (drawMirror b s).2.aux = s.aux := by
  unfold drawMirror
  split <;> exact ⟨⟨rfl, rfl, rfl, rfl, rfl, rfl, rfl, rfl, rfl, rfl, rfl⟩, rfl, rfl⟩

theorem softSwitchRead_frame (n : Nat) (s : State) :
    BusFrame s (softSwitchRead n s).2 ∧ (softSwitchRead n s).2.main = s.main ∧
      (softSwitchRead n s).2.aux = s.aux := by
  unfold softSwitchRead clearStrobe
  split_ifs <;> first
    | exact drawMirror_frame _ s
    | exact ⟨⟨rfl, rfl, rfl, rfl, rfl, rfl, rfl, rfl, rfl, rfl, rfl⟩, rfl, rfl⟩

theorem softSwitchWrite_frame (n : Nat) (s : State) :
    BusFrame s (softSwitchWrite n s) ∧ (softSwitchWrite n s).main = s.main ∧ (softSwitchWrite n s).aux = s.aux := by
  unfold softSwitchWrite clearStrobe
  split_ifs <;> exact ⟨⟨rfl, rfl, rfl, rfl, rfl, rfl, rfl, rfl, rfl, rfl, rfl⟩, rfl, rfl⟩

theorem memCtlRead_frame (a : Word) (s : State) :
    BusFrame s (memCtlRead a s).2 ∧ (memCtlRead a s).2.main = s.main ∧ (memCtlRead a s).2.aux = s.aux := by
  unfold memCtlRead
  split
  · exact ⟨BusFrame.refl s, rfl, rfl⟩
  · exact ⟨BusFrame.refl s, rfl, rfl⟩
  · exact ⟨BusFrame.refl s, rfl, rfl⟩
  · exact softSwitchRead_frame _ s
  · exact ⟨BusFrame.refl s, rfl, rfl⟩

theorem readPulse_disks (vol : Byte) (d : Disk) :
    (readPulse vol d).disk1 = d.disk1 ∧ (readPulse vol d).disk2 = d.disk2 := by
  unfold readPulse
  split
  · split_ifs <;> exact ⟨rfl, rfl⟩
  · exact ⟨rfl, rfl⟩

theorem diskTransition_frame (n : Nat) (s : State) :
    BusFrame s (diskTransition n s) ∧ (diskTransition n s).main = s.main ∧ (diskTransition n s).aux = s.aux ∧
      (diskTransition n s).sw = s.sw ∧ (diskTransition n s).kbd = s.kbd ∧ (diskTransition n s).host = s.host := by
  have hp := readPulse_disks s.params.volume s.disk
  unfold diskTransition
  split <;>
    exact ⟨⟨rfl, rfl, rfl, rfl, rfl, by first | rfl | exact hp.1, by first | rfl | exact hp.2, rfl, rfl, rfl, rfl⟩,
      rfl, rfl, rfl, rfl, rfl⟩

theorem diskAccess_frame (a : Word) (s : State) :
    BusFrame s (diskAccess a s) ∧ (diskAccess a s).main = s.main ∧ (diskAccess a s).aux = s.aux ∧
      (diskAccess a s).sw = s.sw ∧ (diskAccess a s).kbd = s.kbd ∧ (diskAccess a s).host = s.host := by
  have h := diskTransition_frame (a.toNat % 16) s
  unfold diskAccess
  dsimp only
  split
  · obtain ⟨⟨h1, h2, h3, h4, h5, h6, h7, h8, h9, h10, h11⟩, hm, ha, hs, hk, hh⟩ := h
    exact ⟨⟨h1, h2, h3, h4, h5, h6, h7, h8, h9, h10, h11⟩, hm, ha, hs, hk, hh⟩
  · exact h

/-! ### One bus access -/

/-- The devices an access notifies (R74). -/
theorem busSet_eq (a : Word) (v : Byte) (rw : Rw) (s : State) :
    busSet a v rw s =
      if 0xC0E0 ≤ a.toNat ∧ a.toNat ≤ 0xC0EF then
        notify (notify (withBus s a v rw) ⟨.memoryController, 0, 0xFFFF⟩) ⟨.diskController, 0xC0E0, 0xC0EF⟩
      else notify (withBus s a v rw) ⟨.memoryController, 0, 0xFFFF⟩ := by
  have ha : a.toNat ≤ 65535 := by have := a.isLt; omega
  unfold busSet attached attach withBus
  split_ifs with h
  · simp [List.filter, ha, h]
  · have hd : (decide (49376 ≤ a.toNat) && decide (a.toNat ≤ 49391)) = false := by simpa using h
    simp [List.filter, ha, hd]

theorem notify_memory_frame (s : State) :
    BusFrame s (notify s ⟨.memoryController, 0, 0xFFFF⟩) := by
  unfold notify
  cases h : s.bus.rw
  · obtain ⟨h1, h2, h3, h4, h5, h6, h7, h8, h9, h10, h11⟩ := (memCtlRead_frame s.bus.addr s).1
    exact ⟨h1, h2, h3, h4, h5, h6, h7, h8, h9, h10, h11⟩
  · dsimp only
    unfold memCtlWrite
    split
    · next bank off _ => cases bank <;> exact ⟨rfl, rfl, rfl, rfl, rfl, rfl, rfl, rfl, rfl, rfl, rfl⟩
    · exact BusFrame.refl s
    · exact BusFrame.refl s
    · exact (softSwitchWrite_frame _ s).1
    · exact BusFrame.refl s

theorem busSet_frame (a : Word) (v : Byte) (rw : Rw) (s : State) : BusFrame s (busSet a v rw s) := by
  have h0 : BusFrame s (withBus s a v rw) := ⟨rfl, rfl, rfl, rfl, rfl, rfl, rfl, rfl, rfl, rfl, rfl⟩
  rw [busSet_eq]
  split
  · exact (h0.trans (notify_memory_frame _)).trans (diskAccess_frame _ _).1
  · exact h0.trans (notify_memory_frame _)

/-- What a read access leaves alone. -/
theorem memRead_frame (a : Word) (s : State) : BusFrame s (memRead a s).2 := busSet_frame a _ .read s

/-- What a write access leaves alone. -/
theorem memWrite_frame (a : Word) (v : Byte) (s : State) : BusFrame s (memWrite a v s) := busSet_frame a v .write s

@[simp] theorem memRead_cpu (a : Word) (s : State) : (memRead a s).2.cpu = s.cpu := (memRead_frame a s).cpu
@[simp] theorem memRead_params (a : Word) (s : State) : (memRead a s).2.params = s.params := (memRead_frame a s).params
@[simp] theorem memRead_seq (a : Word) (s : State) : (memRead a s).2.seq = s.seq := (memRead_frame a s).seq
@[simp] theorem memRead_mirrors (a : Word) (s : State) : (memRead a s).2.mirrors = s.mirrors :=
  (memRead_frame a s).mirrors
@[simp] theorem memWrite_cpu (a : Word) (v : Byte) (s : State) : (memWrite a v s).cpu = s.cpu :=
  (memWrite_frame a v s).cpu
@[simp] theorem memWrite_params (a : Word) (v : Byte) (s : State) : (memWrite a v s).params = s.params :=
  (memWrite_frame a v s).params
@[simp] theorem memWrite_seq (a : Word) (v : Byte) (s : State) : (memWrite a v s).seq = s.seq :=
  (memWrite_frame a v s).seq
@[simp] theorem memWrite_mirrors (a : Word) (v : Byte) (s : State) : (memWrite a v s).mirrors = s.mirrors :=
  (memWrite_frame a v s).mirrors

theorem notify_read_ram {s : State} (h : s.bus.rw = .read) :
    (notify s ⟨.memoryController, 0, 0xFFFF⟩).main = s.main ∧ (notify s ⟨.memoryController, 0, 0xFFFF⟩).aux = s.aux := by
  unfold notify
  rw [h]
  exact (memCtlRead_frame s.bus.addr s).2

/-- A read changes no byte of RAM (R79). -/
theorem memRead_ram (a : Word) (s : State) : (memRead a s).2.main = s.main ∧ (memRead a s).2.aux = s.aux := by
  unfold memRead
  dsimp only
  rw [busSet_eq]
  have h1 := notify_read_ram (s := withBus s a s.bus.data .read) rfl
  split
  · have h2 := diskAccess_frame (notify (withBus s a s.bus.data .read) ⟨.memoryController, 0, 0xFFFF⟩).bus.addr
      (notify (withBus s a s.bus.data .read) ⟨.memoryController, 0, 0xFFFF⟩)
    exact ⟨h2.2.1.trans h1.1, h2.2.2.1.trans h1.2⟩
  · exact h1

@[simp] theorem memRead_main (a : Word) (s : State) : (memRead a s).2.main = s.main := (memRead_ram a s).1
@[simp] theorem memRead_aux (a : Word) (s : State) : (memRead a s).2.aux = s.aux := (memRead_ram a s).2

theorem memRead_sameRam (a : Word) (s : State) : SameRam s (memRead a s).2 := by
  intro bank off
  cases bank <;> simp [ramRead]

theorem isIo_false {a : Word} (h : isIo a = false) : ¬(0xC000 ≤ a.toNat ∧ a.toNat ≤ 0xC0FF) := by
  simpa [isIo] using h

theorem readPlace_io (sw : Switches) (a : Nat) : readPlace sw a = .softSwitch ↔ 0xC000 ≤ a ∧ a ≤ 0xC0FF := by
  unfold readPlace
  split_ifs <;> simp <;> omega

theorem writePlace_io (sw : Switches) (a : Nat) : writePlace sw a = .softSwitch ↔ 0xC000 ≤ a ∧ a ≤ 0xC0FF := by
  unfold writePlace
  split_ifs <;> simp <;> omega

/-- Outside the soft-switch page a read returns the mapped byte and changes nothing but the bus lines
(R86, R100). -/
theorem memRead_plain {a : Word} (h : isIo a = false) (s : State) :
    memRead a s = (mappedByte s a, withBus s a (mappedByte s a) .read) := by
  have hio := isIo_false h
  have hne : ¬(0xC0E0 ≤ a.toNat ∧ a.toNat ≤ 0xC0EF) := by omega
  have hp : readPlace s.sw a.toNat ≠ .softSwitch := fun hc => hio ((readPlace_io _ _).1 hc)
  have hm : memCtlRead a (withBus s a s.bus.data .read) = (mappedByte s a, withBus s a s.bus.data .read) := by
    unfold memCtlRead mappedByte
    rw [show (withBus s a s.bus.data .read).sw = s.sw from rfl]
    cases hr : readPlace s.sw a.toNat with
    | ram bank off => cases bank <;> rfl
    | sysRom off => rfl
    | bootProm off => rfl
    | softSwitch => exact absurd hr hp
    | nothing => rfl
  unfold memRead
  dsimp only
  rw [busSet_eq, if_neg hne]
  have hn : notify (withBus s a s.bus.data .read) ⟨.memoryController, 0, 0xFFFF⟩ = withBus s a (mappedByte s a) .read := by
    unfold notify
    dsimp only [withBus] at hm ⊢
    rw [hm]
  rw [hn]
  rfl

/-- Outside the soft-switch page a write stores the byte where it is mapped, or is dropped, and changes nothing
else but the bus lines (R101). -/
theorem memWrite_plain {a : Word} (h : isIo a = false) (v : Byte) (s : State) :
    memWrite a v s =
      match storedAt s a with
      | some (bank, off) => ramWrite (withBus s a v .write) bank off v
      | none => withBus s a v .write := by
  have hio := isIo_false h
  have hne : ¬(0xC0E0 ≤ a.toNat ∧ a.toNat ≤ 0xC0EF) := by omega
  have hp : writePlace s.sw a.toNat ≠ .softSwitch := fun hc => hio ((writePlace_io _ _).1 hc)
  unfold memWrite
  rw [busSet_eq, if_neg hne]
  unfold notify memCtlWrite storedAt
  dsimp only [withBus]
  cases hr : writePlace s.sw a.toNat with
  | ram bank off => rfl
  | sysRom off => rfl
  | bootProm off => rfl
  | softSwitch => exact absurd hr hp
  | nothing => rfl

theorem ramRead_ramWrite (s : State) (b b' : Bank) (off off' : Nat) (v : Byte) :
    ramRead (ramWrite s b off v) b' off' = if some (b, off) = some (b', off') then v else ramRead s b' off' := by
  by_cases hb : b = b'
  · subst hb
    by_cases ho : off = off'
    · subst ho
      cases b <;> simp [ramRead, ramWrite]
    · have ho' : off' ≠ off := fun h => ho h.symm
      cases b <;> simp [ramRead, ramWrite, ho, Memory.read_write_other _ ho']
  · cases b <;> cases b' <;> first | exact absurd rfl hb | simp [ramRead, ramWrite]

/-- A write in the soft-switch page stores no byte (R102). -/
theorem memWrite_io {a : Word} (hio : 0xC000 ≤ a.toNat ∧ a.toNat ≤ 0xC0FF) (v : Byte) (s : State) :
    (memWrite a v s).main = s.main ∧ (memWrite a v s).aux = s.aux := by
  have hn : (notify (withBus s a v .write) ⟨.memoryController, 0, 0xFFFF⟩).main = s.main ∧
      (notify (withBus s a v .write) ⟨.memoryController, 0, 0xFFFF⟩).aux = s.aux := by
    unfold notify memCtlWrite
    dsimp only [withBus]
    rw [(writePlace_io s.sw a.toNat).2 hio]
    exact (softSwitchWrite_frame _ _).2
  unfold memWrite
  rw [busSet_eq]
  split
  · have h2 := diskAccess_frame (notify (withBus s a v .write) ⟨.memoryController, 0, 0xFFFF⟩).bus.addr
      (notify (withBus s a v .write) ⟨.memoryController, 0, 0xFFFF⟩)
    exact ⟨h2.2.1.trans hn.1, h2.2.2.1.trans hn.2⟩
  · exact hn

/-- What a write access does to RAM: it stores at `storedAt`, and nowhere else (R101). -/
theorem memWrite_ramStored (a : Word) (v : Byte) (s : State) : RamStored (storedAt s a) v s (memWrite a v s) := by
  intro bank off
  by_cases h : isIo a = false
  · rw [memWrite_plain h]
    cases hs : storedAt s a with
    | none => cases bank <;> rfl
    | some p =>
      obtain ⟨b, o⟩ := p
      dsimp only
      rw [ramRead_ramWrite]
      cases bank <;> rfl
  · have hio : 0xC000 ≤ a.toNat ∧ a.toNat ≤ 0xC0FF := by simpa [isIo] using h
    have hs : storedAt s a = none := by unfold storedAt; rw [(writePlace_io s.sw a.toNat).2 hio]
    have hr := memWrite_io hio v s
    rw [hs]
    cases bank <;> simp [ramRead, hr.1, hr.2]

theorem writePlace_bound {sw : Switches} {a off : Nat} {bank : Bank} (ha : a < 65536)
    (h : writePlace sw a = .ram bank off) : off < 65536 := by
  unfold writePlace lcOffset at h
  split_ifs at h <;> simp at h <;> omega

/-- Every write keeps the canonical form of both banks. -/
theorem memWrite_wf (a : Word) (v : Byte) {s : State} (hm : s.main.wf = true) (hx : s.aux.wf = true) :
    (memWrite a v s).main.wf = true ∧ (memWrite a v s).aux.wf = true := by
  by_cases h : isIo a = false
  · rw [memWrite_plain h]
    unfold storedAt
    cases hp : writePlace s.sw a.toNat with
    | ram bank off =>
      have hb := writePlace_bound a.isLt hp
      cases bank
      · exact ⟨Memory.wf_write hb v hm, hx⟩
      · exact ⟨hm, Memory.wf_write hb v hx⟩
    | sysRom off => exact ⟨hm, hx⟩
    | bootProm off => exact ⟨hm, hx⟩
    | softSwitch => exact ⟨hm, hx⟩
    | nothing => exact ⟨hm, hx⟩
  · have hio : 0xC000 ≤ a.toNat ∧ a.toNat ≤ 0xC0FF := by simpa [isIo] using h
    have hr := memWrite_io hio v s
    rw [hr.1, hr.2]
    exact ⟨hm, hx⟩

end Sys2Proof.Machine
end

