-- ==== Sys2Proof/Laws/State.lean ====
section
/-! SUPPORT. What each update of the state leaves in each field, so that no proof unfolds a record update. -/

namespace Sys2Proof.Machine

section
variable (f : Cpu → Cpu) (s : State)
@[simp] theorem onCpu_cpu : (onCpu f s).cpu = f s.cpu := rfl
@[simp] theorem onCpu_bus : (onCpu f s).bus = s.bus := rfl
@[simp] theorem onCpu_main : (onCpu f s).main = s.main := rfl
@[simp] theorem onCpu_aux : (onCpu f s).aux = s.aux := rfl
@[simp] theorem onCpu_kbd : (onCpu f s).kbd = s.kbd := rfl
@[simp] theorem onCpu_sw : (onCpu f s).sw = s.sw := rfl
@[simp] theorem onCpu_mirrors : (onCpu f s).mirrors = s.mirrors := rfl
@[simp] theorem onCpu_disk : (onCpu f s).disk = s.disk := rfl
@[simp] theorem onCpu_seq : (onCpu f s).seq = s.seq := rfl
@[simp] theorem onCpu_host : (onCpu f s).host = s.host := rfl
@[simp] theorem onCpu_params : (onCpu f s).params = s.params := rfl
@[simp] theorem onCpu_freeCount : (onCpu f s).freeCount = s.freeCount := rfl
end

section
variable (s : State) (a : Word) (v : Byte) (rw : Rw)
@[simp] theorem withBus_cpu : (withBus s a v rw).cpu = s.cpu := rfl
@[simp] theorem withBus_main : (withBus s a v rw).main = s.main := rfl
@[simp] theorem withBus_aux : (withBus s a v rw).aux = s.aux := rfl
@[simp] theorem withBus_kbd : (withBus s a v rw).kbd = s.kbd := rfl
@[simp] theorem withBus_sw : (withBus s a v rw).sw = s.sw := rfl
@[simp] theorem withBus_mirrors : (withBus s a v rw).mirrors = s.mirrors := rfl
@[simp] theorem withBus_disk : (withBus s a v rw).disk = s.disk := rfl
@[simp] theorem withBus_seq : (withBus s a v rw).seq = s.seq := rfl
@[simp] theorem withBus_host : (withBus s a v rw).host = s.host := rfl
@[simp] theorem withBus_params : (withBus s a v rw).params = s.params := rfl
@[simp] theorem withBus_freeCount : (withBus s a v rw).freeCount = s.freeCount := rfl
@[simp] theorem withBus_bus : (withBus s a v rw).bus = { s.bus with addr := a, data := v, rw := rw } := rfl
end

section
variable (s : State) (b : Bank) (off : Nat) (v : Byte)
@[simp] theorem ramWrite_cpu : (ramWrite s b off v).cpu = s.cpu := by cases b <;> rfl
@[simp] theorem ramWrite_bus : (ramWrite s b off v).bus = s.bus := by cases b <;> rfl
@[simp] theorem ramWrite_kbd : (ramWrite s b off v).kbd = s.kbd := by cases b <;> rfl
@[simp] theorem ramWrite_sw : (ramWrite s b off v).sw = s.sw := by cases b <;> rfl
@[simp] theorem ramWrite_mirrors : (ramWrite s b off v).mirrors = s.mirrors := by cases b <;> rfl
@[simp] theorem ramWrite_disk : (ramWrite s b off v).disk = s.disk := by cases b <;> rfl
@[simp] theorem ramWrite_seq : (ramWrite s b off v).seq = s.seq := by cases b <;> rfl
@[simp] theorem ramWrite_host : (ramWrite s b off v).host = s.host := by cases b <;> rfl
@[simp] theorem ramWrite_params : (ramWrite s b off v).params = s.params := by cases b <;> rfl
@[simp] theorem ramWrite_freeCount : (ramWrite s b off v).freeCount = s.freeCount := by cases b <;> rfl
end

section
variable (c : OpCost) (r : Resolved)
@[simp] theorem advance_a : (advance c r).cpu.a = r.state.cpu.a := rfl
@[simp] theorem advance_x : (advance c r).cpu.x = r.state.cpu.x := rfl
@[simp] theorem advance_y : (advance c r).cpu.y = r.state.cpu.y := rfl
@[simp] theorem advance_sp : (advance c r).cpu.sp = r.state.cpu.sp := rfl
@[simp] theorem advance_p : (advance c r).cpu.p = r.state.cpu.p := rfl
@[simp] theorem advance_al : (advance c r).cpu.al = r.al := rfl
@[simp] theorem advance_pc : (advance c r).cpu.pc = r.state.cpu.pc + BitVec.ofNat 16 c.size := rfl
@[simp] theorem advance_irq : (advance c r).cpu.irq = r.state.cpu.irq := rfl
@[simp] theorem advance_nmi : (advance c r).cpu.nmi = r.state.cpu.nmi := rfl
@[simp] theorem advance_bus : (advance c r).bus = r.state.bus := rfl
@[simp] theorem advance_main : (advance c r).main = r.state.main := rfl
@[simp] theorem advance_aux : (advance c r).aux = r.state.aux := rfl
@[simp] theorem advance_kbd : (advance c r).kbd = r.state.kbd := rfl
@[simp] theorem advance_sw : (advance c r).sw = r.state.sw := rfl
@[simp] theorem advance_mirrors : (advance c r).mirrors = r.state.mirrors := rfl
@[simp] theorem advance_disk : (advance c r).disk = r.state.disk := rfl
@[simp] theorem advance_seq : (advance c r).seq = r.state.seq := rfl
@[simp] theorem advance_host : (advance c r).host = r.state.host := rfl
@[simp] theorem advance_params : (advance c r).params = r.state.params := rfl
@[simp] theorem advance_freeCount : (advance c r).freeCount = r.state.freeCount := rfl
end

section
variable (s : State) (c : Cpu)
@[simp] theorem withCpu_cpu : (withCpu s c).cpu = c := rfl
@[simp] theorem withCpu_bus : (withCpu s c).bus = s.bus := rfl
@[simp] theorem withCpu_main : (withCpu s c).main = s.main := rfl
@[simp] theorem withCpu_aux : (withCpu s c).aux = s.aux := rfl
@[simp] theorem withCpu_kbd : (withCpu s c).kbd = s.kbd := rfl
@[simp] theorem withCpu_sw : (withCpu s c).sw = s.sw := rfl
@[simp] theorem withCpu_mirrors : (withCpu s c).mirrors = s.mirrors := rfl
@[simp] theorem withCpu_disk : (withCpu s c).disk = s.disk := rfl
@[simp] theorem withCpu_seq : (withCpu s c).seq = s.seq := rfl
@[simp] theorem withCpu_host : (withCpu s c).host = s.host := rfl
@[simp] theorem withCpu_params : (withCpu s c).params = s.params := rfl
@[simp] theorem withCpu_freeCount : (withCpu s c).freeCount = s.freeCount := rfl
@[simp] theorem ramRead_withCpu (bank : Bank) (off : Nat) : ramRead (withCpu s c) bank off = ramRead s bank off := by
  cases bank <;> rfl
end

end Sys2Proof.Machine
end

