-- ==== Sys2Proof/Laws/Operands.lean ====
section
/-! SUPPORT. One lemma per operation built over the bus: the stack, the addressing modes, the shapes an
instruction can have. -/

namespace Sys2Proof.Machine

/-! ### The stack and zero page -/

@[simp] theorem isIo_stackAddr (sp : Byte) : isIo (stackAddr sp) = false := by
  have := sp.isLt
  simp only [isIo, stackAddr_toNat]
  simp; omega

@[simp] theorem isIo_zext16 (b : Byte) : isIo (zext16 b) = false := by
  have := b.isLt
  simp only [isIo, zext16_toNat]
  simp; omega

theorem nextInPage_zext16 (b : Byte) : nextInPage (zext16 b) = zext16 (b + 1) := by
  apply BitVec.eq_of_toNat_eq
  have := b.isLt
  rw [nextInPage, wordOf_toNat, zext16_toNat, loByte_zext16, hiByte_toNat, zext16_toNat]
  omega

theorem storedAt_low {s : State} {a : Word} (h : a.toNat ≤ 0x01FF) : storedAt s a = some (zpBank s.sw, a.toNat) := by
  unfold storedAt writePlace
  rw [if_pos h]

theorem mappedByte_low {s : State} {a : Word} (h : a.toNat ≤ 0x01FF) :
    mappedByte s a = ramRead s (zpBank s.sw) a.toNat := by
  unfold mappedByte readPlace
  rw [if_pos h]

theorem storedAt_stack (s : State) (sp : Byte) :
    storedAt s (stackAddr sp) = some (zpBank s.sw, 256 + sp.toNat) := by
  have := sp.isLt
  rw [storedAt_low (by rw [stackAddr_toNat]; omega), stackAddr_toNat]

theorem mappedByte_stack (s : State) (sp : Byte) :
    mappedByte s (stackAddr sp) = ramRead s (zpBank s.sw) (256 + sp.toNat) := by
  have := sp.isLt
  rw [mappedByte_low (by rw [stackAddr_toNat]; omega), stackAddr_toNat]

theorem mappedByte_zeroPage (s : State) (b : Byte) : mappedByte s (zext16 b) = ramRead s (zpBank s.sw) b.toNat := by
  have := b.isLt
  rw [mappedByte_low (by rw [zext16_toNat]; omega), zext16_toNat]

/-- All that a push does (R27). -/
theorem push8_eq (v : Byte) (s : State) :
    push8 v s =
      onCpu (fun c => { c with sp := s.cpu.sp - 1 })
        (ramWrite (withBus s (stackAddr s.cpu.sp) v .write) (zpBank s.sw) (256 + s.cpu.sp.toNat) v) := by
  unfold push8
  rw [memWrite_plain (isIo_stackAddr _), storedAt_stack]
  rfl

/-- All that a pull does (R27). -/
theorem pull8_eq (s : State) :
    pull8 s =
      (ramRead s (zpBank s.sw) (256 + (s.cpu.sp + 1).toNat),
        withBus (onCpu (fun c => { c with sp := s.cpu.sp + 1 }) s) (stackAddr (s.cpu.sp + 1))
          (ramRead s (zpBank s.sw) (256 + (s.cpu.sp + 1).toNat)) .read) := by
  have h : mappedByte { s with cpu := { s.cpu with sp := s.cpu.sp + 1 } } (stackAddr (s.cpu.sp + 1)) =
      ramRead s (zpBank s.sw) (256 + (s.cpu.sp + 1).toNat) := by
    rw [mappedByte_stack]
    cases hb : zpBank s.sw <;> simp [ramRead]
  unfold pull8
  rw [memRead_plain (isIo_stackAddr _), h]
  rfl

/-- A zero-page pointer read: two bytes of zero page, the second address wrapping within it (R83). -/
theorem memReadNoWrap_zeroPage (z : Byte) (s : State) :
    memReadNoWrap (zext16 z) s =
      (wordOf (ramRead s (zpBank s.sw) (z + 1).toNat) (ramRead s (zpBank s.sw) z.toNat),
        withBus s (zext16 (z + 1)) (ramRead s (zpBank s.sw) (z + 1).toNat) .read) := by
  unfold memReadNoWrap
  rw [nextInPage_zext16, memRead_plain (isIo_zext16 z)]
  dsimp only
  rw [memRead_plain (isIo_zext16 (z + 1)), mappedByte_zeroPage, mappedByte_zeroPage]
  have h : ramRead (withBus s (zext16 z) (ramRead s (zpBank s.sw) z.toNat) .read)
      (zpBank (withBus s (zext16 z) (ramRead s (zpBank s.sw) z.toNat) .read).sw) (z + 1).toNat =
      ramRead s (zpBank s.sw) (z + 1).toNat := by
    cases hb : zpBank s.sw <;> simp [ramRead, hb]
  rw [h]
  rfl

/-! ### Addressing modes -/

theorem memReadNoWrap_frame (a : Word) (s : State) : BusFrame s (memReadNoWrap a s).2 :=
  (memRead_frame a s).trans (memRead_frame _ _)

/-- Resolving an operand changes no register and no byte of RAM. -/
theorem resolve_frame (m : Mode) (w : Word) (s : State) :
    BusFrame s (resolve m w s).state ∧ (resolve m w s).state.main = s.main ∧ (resolve m w s).state.aux = s.aux := by
  cases m <;> first
    | exact ⟨BusFrame.refl s, rfl, rfl⟩
    | (refine ⟨memReadNoWrap_frame _ s, ?_, ?_⟩ <;> simp [resolve, memReadNoWrap])

@[simp] theorem resolve_cpu (m : Mode) (w : Word) (s : State) : (resolve m w s).state.cpu = s.cpu :=
  (resolve_frame m w s).1.cpu

/-- What `prepare` does to the CPU (R141): A, X, Y, SP, P are as they were; `al`, PC and the cycle count move. -/
theorem prepare_cpu (m : Mode) (c : OpCost) (w : Word) (s : State) :
    (prepare m c w s).cpu =
      { s.cpu with
        al := (resolve m w s).al
        pc := s.cpu.pc + BitVec.ofNat 16 c.size
        cycleCount := s.cpu.cycleCount + BitVec.ofNat 64 (c.cycles + if (resolve m w s).paged then c.pageCycles else 0) } := by
  unfold prepare advance
  simp

@[simp] theorem prepare_a (m : Mode) (c : OpCost) (w : Word) (s : State) : (prepare m c w s).cpu.a = s.cpu.a := by
  rw [prepare_cpu]
@[simp] theorem prepare_x (m : Mode) (c : OpCost) (w : Word) (s : State) : (prepare m c w s).cpu.x = s.cpu.x := by
  rw [prepare_cpu]
@[simp] theorem prepare_y (m : Mode) (c : OpCost) (w : Word) (s : State) : (prepare m c w s).cpu.y = s.cpu.y := by
  rw [prepare_cpu]
@[simp] theorem prepare_sp (m : Mode) (c : OpCost) (w : Word) (s : State) : (prepare m c w s).cpu.sp = s.cpu.sp := by
  rw [prepare_cpu]
@[simp] theorem prepare_p (m : Mode) (c : OpCost) (w : Word) (s : State) : (prepare m c w s).cpu.p = s.cpu.p := by
  rw [prepare_cpu]
@[simp] theorem prepare_pc (m : Mode) (c : OpCost) (w : Word) (s : State) :
    (prepare m c w s).cpu.pc = s.cpu.pc + BitVec.ofNat 16 c.size := by
  rw [prepare_cpu]
@[simp] theorem prepare_irq (m : Mode) (c : OpCost) (w : Word) (s : State) : (prepare m c w s).cpu.irq = s.cpu.irq := by
  rw [prepare_cpu]
@[simp] theorem prepare_nmi (m : Mode) (c : OpCost) (w : Word) (s : State) : (prepare m c w s).cpu.nmi = s.cpu.nmi := by
  rw [prepare_cpu]
@[simp] theorem prepare_main (m : Mode) (c : OpCost) (w : Word) (s : State) : (prepare m c w s).main = s.main :=
  (resolve_frame m w s).2.1
@[simp] theorem prepare_aux (m : Mode) (c : OpCost) (w : Word) (s : State) : (prepare m c w s).aux = s.aux :=
  (resolve_frame m w s).2.2

/-- What `prepare` leaves alone outside the CPU and the bus. -/
theorem prepare_surroundings (m : Mode) (c : OpCost) (w : Word) (s : State) : SameSurroundings s (prepare m c w s) := by
  obtain ⟨_, h2, h3, h4, h5, h6, h7, h8, h9, h10, h11⟩ := (resolve_frame m w s).1
  exact ⟨rfl, h2, h3, h4, h5, h6, h7, h8, h9, h10, h11⟩

@[simp] theorem prepare_params (m : Mode) (c : OpCost) (w : Word) (s : State) : (prepare m c w s).params = s.params :=
  (prepare_surroundings m c w s).params

theorem prepare_sameRam (m : Mode) (c : OpCost) (w : Word) (s : State) : SameRam s (prepare m c w s) := by
  intro bank off
  cases bank <;> simp [ramRead]

theorem SameSurroundings.refl (s : State) : SameSurroundings s s := ⟨rfl, rfl, rfl, rfl, rfl, rfl, rfl, rfl, rfl, rfl, rfl⟩

theorem SameSurroundings.trans {s t u : State} (h : SameSurroundings s t) (k : SameSurroundings t u) :
    SameSurroundings s u :=
  ⟨rfl, k.mirrors.trans h.mirrors, k.seq.trans h.seq, k.params.trans h.params, k.freeCount.trans h.freeCount,
    k.disk1.trans h.disk1, k.disk2.trans h.disk2, k.schedule.trans h.schedule, k.controlHeld.trans h.controlHeld,
    k.colorEnabled.trans h.colorEnabled, k.monoColor.trans h.monoColor⟩

theorem SameSurroundings.of_busFrame {s t : State} (h : BusFrame s t) : SameSurroundings s t :=
  ⟨rfl, h.mirrors, h.seq, h.params, h.freeCount, h.disk1, h.disk2, h.schedule, h.controlHeld, h.colorEnabled, h.monoColor⟩

theorem onCpu_surroundings (f : Cpu → Cpu) (s : State) : SameSurroundings s (onCpu f s) :=
  ⟨rfl, rfl, rfl, rfl, rfl, rfl, rfl, rfl, rfl, rfl, rfl⟩

theorem memWrite_surroundings (a : Word) (v : Byte) (s : State) : SameSurroundings s (memWrite a v s) :=
  .of_busFrame (memWrite_frame a v s)

theorem memRead_surroundings (a : Word) (s : State) : SameSurroundings s (memRead a s).2 :=
  .of_busFrame (memRead_frame a s)

theorem push8_surroundings (v : Byte) (s : State) : SameSurroundings s (push8 v s) :=
  (memWrite_surroundings _ v s).trans ⟨rfl, rfl, rfl, rfl, rfl, rfl, rfl, rfl, rfl, rfl, rfl⟩

theorem pull8_surroundings (s : State) : SameSurroundings s (pull8 s).2 := by
  rw [pull8_eq]
  exact ⟨rfl, rfl, rfl, rfl, rfl, rfl, rfl, rfl, rfl, rfl, rfl⟩

theorem push16_surroundings (w : Word) (s : State) : SameSurroundings s (push16 w s) :=
  (push8_surroundings _ s).trans (push8_surroundings _ _)

theorem pull16_surroundings (s : State) : SameSurroundings s (pull16 s).2 :=
  (pull8_surroundings s).trans (pull8_surroundings _)

theorem memRead16_surroundings (a : Word) (s : State) : SameSurroundings s (memRead16 a s).2 :=
  (memRead_surroundings a s).trans (memRead_surroundings _ _)

/-- Taking the exception leaves everything outside the CPU, RAM and the bus alone. -/
theorem takeException_surroundings (v : Word) (s : State) : SameSurroundings s (takeException v s) := by
  unfold takeException
  exact ((((push16_surroundings _ s).trans (push8_surroundings _ _)).trans
    (onCpu_surroundings (fun c => { c with p := setFlag c.p .I true }) _)).trans (memRead16_surroundings _ _)).trans
    (onCpu_surroundings (fun c => { c with pc := _ }) _)

/-- So does returning from it. -/
theorem returnFromException_surroundings (s : State) : SameSurroundings s (returnFromException s) := by
  unfold returnFromException
  exact (((pull8_surroundings s).trans (onCpu_surroundings (fun c => { c with p := pulledStatus _ }) _)).trans
    (pull16_surroundings _)).trans (onCpu_surroundings (fun c => { c with pc := _ }) _)

/-! ### More of the same -/

@[simp] theorem mappedByte_withBus (s : State) (a b : Word) (v : Byte) (rw : Rw) :
    mappedByte (withBus s a v rw) b = mappedByte s b := rfl

@[simp] theorem ramRead_withBus (s : State) (a : Word) (v : Byte) (rw : Rw) (bank : Bank) (off : Nat) :
    ramRead (withBus s a v rw) bank off = ramRead s bank off := by
  cases bank <;> rfl

@[simp] theorem ramRead_onCpu (f : Cpu → Cpu) (s : State) (bank : Bank) (off : Nat) :
    ramRead (onCpu f s) bank off = ramRead s bank off := by
  cases bank <;> rfl

theorem SameRam.of_eq {s t : State} (hm : t.main = s.main) (hx : t.aux = s.aux) : SameRam s t := by
  intro bank off
  cases bank <;> simp [ramRead, hm, hx]

theorem SameDevices.refl (s : State) : SameDevices s s := ⟨rfl, rfl, rfl, rfl, rfl⟩

theorem SameDevices.trans {s t u : State} (h : SameDevices s t) (k : SameDevices t u) : SameDevices s u :=
  ⟨k.1.trans h.1, k.2.1.trans h.2.1, k.2.2.1.trans h.2.2.1, k.2.2.2.1.trans h.2.2.2.1, k.2.2.2.2.trans h.2.2.2.2⟩

/-- A read away from the soft-switch page touches no device. -/
theorem memRead_devices {a : Word} (h : isIo a = false) (s : State) : SameDevices s (memRead a s).2 := by
  rw [memRead_plain h]
  exact ⟨rfl, rfl, rfl, rfl, rfl⟩

theorem ramWrite_devices (s : State) (b : Bank) (off : Nat) (v : Byte) : SameDevices s (ramWrite s b off v) := by
  cases b <;> exact ⟨rfl, rfl, rfl, rfl, rfl⟩

/-- Nor does a write there. -/
theorem memWrite_devices {a : Word} (h : isIo a = false) (v : Byte) (s : State) : SameDevices s (memWrite a v s) := by
  have h0 : SameDevices s (withBus s a v .write) := ⟨rfl, rfl, rfl, rfl, rfl⟩
  rw [memWrite_plain h]
  split
  · exact h0.trans (ramWrite_devices _ _ _ _)
  · exact h0

theorem isIo_nextInPage (a : Word) : isIo (nextInPage a) = isIo a := by
  have h := a.isLt
  have h2 : (nextInPage a).toNat = a.toNat / 256 * 256 + (a.toNat + 1) % 256 := by
    rw [nextInPage, wordOf_toNat, hiByte_toNat, BitVec.toNat_add, loByte_toNat]
    simp
  unfold isIo
  rw [h2]
  congr 1 <;> rw [decide_eq_decide] <;> omega

/-- Resolving touches no device, but through an Indirect pointer in the soft-switch page. -/
theorem resolve_devices (m : Mode) (w : Word) (s : State) (h : m = .indirect → isIo w = false) :
    SameDevices s (resolve m w s).state := by
  have hp : ∀ a, isIo a = false → SameDevices s (memReadNoWrap a s).2 := by
    intro a ha
    unfold memReadNoWrap
    exact (memRead_devices ha s).trans (memRead_devices (by rw [isIo_nextInPage]; exact ha) _)
  cases m <;> first
    | exact SameDevices.refl s
    | exact hp _ (isIo_zext16 _)
    | exact hp _ (h rfl)

theorem prepare_devices (m : Mode) (c : OpCost) (w : Word) (s : State) (h : m = .indirect → isIo w = false) :
    SameDevices s (prepare m c w s) := resolve_devices m w s h

/-- `paged` in numbers (R145). -/
theorem pageDiffers_eq (a b : Word) : pageDiffers a b = decide (a.toNat / 256 ≠ b.toNat / 256) := by
  unfold pageDiffers
  rw [Bool.eq_iff_iff]
  simp [← BitVec.toNat_inj, hiByte_toNat]

/-! ### The shapes of an instruction, in the terms claims use -/

/-- A read instruction (R148). -/
theorem readOp_eq (m : Mode) (c : OpCost) (w : Word) (f : Byte → Cpu → Cpu) (s : State) :
    readOp m c w f s =
      withCpu (memRead (prepare m c w s).cpu.al (prepare m c w s)).2
        (f (memRead (prepare m c w s).cpu.al (prepare m c w s)).1 (prepare m c w s).cpu) := by
  unfold readOp onCpu withCpu
  simp only [memRead_cpu]

/-- A read-modify-write instruction (R148). -/
theorem modifyOp_eq (m : Mode) (c : OpCost) (w : Word) (f : Byte → Byte → Byte × Byte) (s : State) :
    modifyOp m c w f s =
      withCpu
        (memWrite (prepare m c w s).cpu.al (f (memRead (prepare m c w s).cpu.al (prepare m c w s)).1 s.cpu.p).1
          (memRead (prepare m c w s).cpu.al (prepare m c w s)).2)
        { (prepare m c w s).cpu with
          p := (f (memRead (prepare m c w s).cpu.al (prepare m c w s)).1 s.cpu.p).2 } := by
  unfold modifyOp onCpu withCpu
  simp only [memRead_cpu, memWrite_cpu, prepare_p]

/-! ### The undocumented opcodes -/

theorem memRead16_frame (a : Word) (s : State) : BusFrame s (memRead16 a s).2 := (memRead_frame a s).trans (memRead_frame _ _)

/-- Reading the operand bytes an instruction does not carry changes no register and no byte of RAM. -/
theorem completeOperand_frame (m wanted : Mode) (w : Word) (s : State) :
    BusFrame s (completeOperand m wanted w s).2 ∧ (completeOperand m wanted w s).2.main = s.main ∧
      (completeOperand m wanted w s).2.aux = s.aux := by
  unfold completeOperand
  split
  · exact ⟨BusFrame.refl s, rfl, rfl⟩
  · exact ⟨memRead_frame _ s, by simp, by simp⟩
  · exact ⟨memRead_frame _ s, by simp, by simp⟩
  · exact ⟨memRead16_frame _ s, by simp [memRead16], by simp [memRead16]⟩

@[simp] theorem completeOperand_cpu (m wanted : Mode) (w : Word) (s : State) :
    (completeOperand m wanted w s).2.cpu = s.cpu := (completeOperand_frame m wanted w s).1.cpu

/-- Where the instruction carries all that the mode reads, nothing is read. -/
theorem completeOperand_eq {m wanted : Mode} (h : operandReads wanted ≤ operandBytes m) (w : Word) (s : State) :
    completeOperand m wanted w s = (w, s) := by
  unfold completeOperand
  rw [Nat.sub_eq_zero_of_le h]
  cases operandBytes m <;> rfl

/-- Away from the soft-switch page those reads touch no device. -/
theorem completeOperand_devices (m wanted : Mode) (w : Word) (s : State) (h1 : isIo (s.cpu.pc + 1) = false)
    (h2 : isIo (s.cpu.pc + 2) = false) : SameDevices s (completeOperand m wanted w s).2 := by
  have h3 : isIo (s.cpu.pc + 1 + 1) = false := by rw [BitVec.add_assoc]; exact h2
  unfold completeOperand
  split
  · exact SameDevices.refl s
  · exact memRead_devices h1 s
  · exact memRead_devices h2 s
  · exact (memRead_devices h1 s).trans (memRead_devices h3 _)

/-! ### The fetch -/

/-- The fetch changes no register and no byte of RAM. -/
theorem fetch_frame (s : State) :
    BusFrame s (fetch s).2 ∧ (fetch s).2.main = s.main ∧ (fetch s).2.aux = s.aux := by
  unfold fetch
  dsimp only
  split
  · exact ⟨memRead_frame _ s, by simp, by simp⟩
  · exact ⟨(memRead_frame _ s).trans (memRead_frame _ _), by simp, by simp⟩
  · exact ⟨((memRead_frame _ s).trans (memRead_frame _ _)).trans (memRead_frame _ _), by simp, by simp⟩

@[simp] theorem fetch_cpu (s : State) : (fetch s).2.cpu = s.cpu := (fetch_frame s).1.cpu

/-- The decoder reads from the bytes at PC the instruction the fetch yields. -/
theorem decode_codeBytes (s : State) : ∃ rest, decode (codeBytes s) = .ok ((fetch s).1, rest) := by
  unfold codeBytes fetch decode Form.instr
  dsimp only
  cases opForm (memRead s.cpu.pc s).1 <;> simp

end Sys2Proof.Machine
end

