-- ==== Sys2Proof/Laws/Independence.lean ====
section
/-! SUPPORT. The bus looks at no CPU register, and resolving an operand at PC, X and Y only. -/

namespace Sys2Proof.Machine

theorem softSwitchRead_withCpu (n : Nat) (s : State) (c : Cpu) :
    softSwitchRead n (withCpu s c) = ((softSwitchRead n s).1, withCpu (softSwitchRead n s).2 c) := by
  unfold softSwitchRead clearStrobe drawMirror
  split_ifs <;> try rfl
  dsimp only [withCpu]
  split <;> rfl

theorem softSwitchWrite_withCpu (n : Nat) (s : State) (c : Cpu) :
    softSwitchWrite n (withCpu s c) = withCpu (softSwitchWrite n s) c := by
  unfold softSwitchWrite clearStrobe
  split_ifs <;> rfl

theorem memCtlRead_withCpu (a : Word) (s : State) (c : Cpu) :
    memCtlRead a (withCpu s c) = ((memCtlRead a s).1, withCpu (memCtlRead a s).2 c) := by
  unfold memCtlRead
  simp only [withCpu_sw, ramRead_withCpu, withCpu_params]
  split
  · rfl
  · rfl
  · rfl
  · exact softSwitchRead_withCpu _ s c
  · rfl

theorem memCtlWrite_withCpu (a : Word) (v : Byte) (s : State) (c : Cpu) :
    memCtlWrite a v (withCpu s c) = withCpu (memCtlWrite a v s) c := by
  unfold memCtlWrite
  simp only [withCpu_sw]
  split
  · next b _ _ => cases b <;> rfl
  · rfl
  · rfl
  · exact softSwitchWrite_withCpu _ s c
  · rfl

theorem diskAccess_withCpu (a : Word) (s : State) (c : Cpu) : diskAccess a (withCpu s c) = withCpu (diskAccess a s) c := by
  have h : ∀ n, diskTransition n (withCpu s c) = withCpu (diskTransition n s) c := by
    intro n
    unfold diskTransition
    split <;> rfl
  unfold diskAccess
  dsimp only
  rw [h]
  split <;> rfl

theorem notify_withCpu (s : State) (c : Cpu) (t : Attachment) : notify (withCpu s c) t = withCpu (notify s t) c := by
  unfold notify
  cases t.device
  · simp only [withCpu_bus]
    cases s.bus.rw
    · simp only [memCtlRead_withCpu]; rfl
    · simp only [memCtlWrite_withCpu]
  · simp only [withCpu_bus, diskAccess_withCpu]

/-- The bus looks at no register. -/
theorem busSet_withCpu (a : Word) (v : Byte) (rw : Rw) (s : State) (c : Cpu) :
    busSet a v rw (withCpu s c) = withCpu (busSet a v rw s) c := by
  have h : withBus (withCpu s c) a v rw = withCpu (withBus s a v rw) c := rfl
  rw [busSet_eq, busSet_eq, h]
  split <;> simp only [notify_withCpu]

theorem memRead_withCpu (a : Word) (s : State) (c : Cpu) :
    memRead a (withCpu s c) = ((memRead a s).1, withCpu (memRead a s).2 c) := by
  unfold memRead
  simp only [withCpu_bus, busSet_withCpu]

theorem memWrite_withCpu (a : Word) (v : Byte) (s : State) (c : Cpu) :
    memWrite a v (withCpu s c) = withCpu (memWrite a v s) c := busSet_withCpu a v .write s c

theorem memReadNoWrap_withCpu (a : Word) (s : State) (c : Cpu) :
    memReadNoWrap a (withCpu s c) = ((memReadNoWrap a s).1, withCpu (memReadNoWrap a s).2 c) := by
  unfold memReadNoWrap
  simp only [memRead_withCpu]

/-- Completing an operand looks at PC only. -/
theorem completeOperand_withCpu (m wanted : Mode) (w : Word) (s : State) (c : Cpu) (hp : c.pc = s.cpu.pc) :
    completeOperand m wanted w (withCpu s c) =
      ((completeOperand m wanted w s).1, withCpu (completeOperand m wanted w s).2 c) := by
  unfold completeOperand memRead16
  simp only [withCpu_cpu, hp, memRead_withCpu]
  split <;> rfl

/-- Resolving looks at PC, X and Y only. -/
theorem resolve_withCpu (m : Mode) (w : Word) (s : State) (c : Cpu) (hp : c.pc = s.cpu.pc) (hx : c.x = s.cpu.x)
    (hy : c.y = s.cpu.y) :
    resolve m w (withCpu s c) = ⟨(resolve m w s).al, (resolve m w s).paged, withCpu (resolve m w s).state c⟩ := by
  cases m <;> simp [resolve, hp, hx, hy, memReadNoWrap_withCpu]

end Sys2Proof.Machine
end

