-- ==== Sys2Proof/Laws/Io.lean ====
section
/-! SUPPORT. What one access in the soft-switch page does (spec/20_memory.md R102, spec/46_disk2_gcr.md R402). -/

namespace Sys2Proof.Machine

theorem softSwitchRead_withBus (n : Nat) (s : State) (a : Word) (v : Byte) (rw : Rw) :
    softSwitchRead n (withBus s a v rw) = ((softSwitchRead n s).1, withBus (softSwitchRead n s).2 a v rw) := by
  unfold softSwitchRead clearStrobe drawMirror
  split_ifs <;> simp only [withBus] <;> try rfl
  cases h : s.host.draws <;> rfl

theorem softSwitchWrite_withBus (n : Nat) (s : State) (a : Word) (v : Byte) (rw : Rw) :
    softSwitchWrite n (withBus s a v rw) = withBus (softSwitchWrite n s) a v rw := by
  unfold softSwitchWrite clearStrobe
  split_ifs <;> rfl

theorem ioAddr_toNat {n : Nat} (h : n < 0x100) : (BitVec.ofNat 16 (0xC000 + n)).toNat = 0xC000 + n := by
  simp
  omega

theorem memCtlRead_io {n : Nat} (h : n < 0x100) (s : State) :
    memCtlRead (BitVec.ofNat 16 (0xC000 + n)) s = softSwitchRead n s := by
  unfold memCtlRead
  rw [ioAddr_toNat h, (readPlace_io s.sw (0xC000 + n)).2 (by omega)]
  simp only [Nat.add_sub_cancel_left]

theorem memCtlWrite_io {n : Nat} (h : n < 0x100) (v : Byte) (s : State) :
    memCtlWrite (BitVec.ofNat 16 (0xC000 + n)) v s = softSwitchWrite n s := by
  unfold memCtlWrite
  rw [ioAddr_toNat h, (writePlace_io s.sw (0xC000 + n)).2 (by omega)]
  simp only [Nat.add_sub_cancel_left]

theorem notify_io_read {n : Nat} (h : n < 0x100) (s : State) (v : Byte) :
    notify (withBus s (BitVec.ofNat 16 (0xC000 + n)) v .read) ⟨.memoryController, 0, 0xFFFF⟩ =
      withBus (softSwitchRead n s).2 (BitVec.ofNat 16 (0xC000 + n)) (softSwitchRead n s).1 .read := by
  have hr := memCtlRead_io h (withBus s (BitVec.ofNat 16 (0xC000 + n)) v .read)
  rw [softSwitchRead_withBus] at hr
  unfold notify
  simp only [withBus_bus, hr]
  rfl

theorem notify_io_write {n : Nat} (h : n < 0x100) (s : State) (v : Byte) :
    notify (withBus s (BitVec.ofNat 16 (0xC000 + n)) v .write) ⟨.memoryController, 0, 0xFFFF⟩ =
      withBus (softSwitchWrite n s) (BitVec.ofNat 16 (0xC000 + n)) v .write := by
  have hw := memCtlWrite_io h v (withBus s (BitVec.ofNat 16 (0xC000 + n)) v .write)
  rw [softSwitchWrite_withBus] at hw
  unfold notify
  simp only [withBus_bus, hw]

/-- A read in the soft-switch page, away from the disk controller. -/
theorem memRead_io {n : Nat} (h : n < 0x100) (hd : ¬(0xE0 ≤ n ∧ n ≤ 0xEF)) (s : State) :
    memRead (BitVec.ofNat 16 (0xC000 + n)) s =
      ((softSwitchRead n s).1,
        withBus (softSwitchRead n s).2 (BitVec.ofNat 16 (0xC000 + n)) (softSwitchRead n s).1 .read) := by
  unfold memRead
  rw [busSet_eq, ioAddr_toNat h, if_neg (by omega), notify_io_read h]
  rfl

/-- A write there. -/
theorem memWrite_switch {n : Nat} (h : n < 0x100) (hd : ¬(0xE0 ≤ n ∧ n ≤ 0xEF)) (v : Byte) (s : State) :
    memWrite (BitVec.ofNat 16 (0xC000 + n)) v s =
      withBus (softSwitchWrite n s) (BitVec.ofNat 16 (0xC000 + n)) v .write := by
  unfold memWrite
  rw [busSet_eq, ioAddr_toNat h, if_neg (by omega), notify_io_write h]

theorem diskAddr_toNat {n : Nat} (h : n < 16) : (BitVec.ofNat 16 (0xC0E0 + n)).toNat = 0xC0E0 + n := by
  simp
  omega

/-- A read of a disk switch: the latch as it was, at the addresses that drive it, else 0; and the controller's
transition. -/
theorem memRead_disk {n : Nat} (h : n < 16) (s : State) :
    memRead (BitVec.ofNat 16 (0xC0E0 + n)) s =
      ((if drivesData n then s.disk.dataLatch else 0),
        diskAccess (BitVec.ofNat 16 (0xC0E0 + n)) (withBus s (BitVec.ofNat 16 (0xC0E0 + n)) 0 .read)) := by
  have ht := diskAddr_toNat h
  have e : softSwitchRead (0xE0 + n) s = (0, s) := by
    unfold softSwitchRead
    repeat rw [if_neg (by omega)]
  have hr := notify_io_read (n := 0xE0 + n) (by omega) s s.bus.data
  rw [e, ← Nat.add_assoc] at hr
  have hn : (BitVec.ofNat 16 (0xC0E0 + n)).toNat % 16 = n := by omega
  unfold memRead
  rw [busSet_eq, ht, if_pos (by omega), hr]
  have hb : notify (withBus s (BitVec.ofNat 16 (0xC0E0 + n)) 0 .read) ⟨.diskController, 0xC0E0, 0xC0EF⟩ =
      diskAccess (BitVec.ofNat 16 (0xC0E0 + n)) (withBus s (BitVec.ofNat 16 (0xC0E0 + n)) 0 .read) := rfl
  rw [hb]
  refine Prod.ext ?_ rfl
  unfold diskAccess
  simp only [hn]
  interval_cases n <;> rfl

/-- A write to a disk switch: the same transition. -/
theorem memWrite_disk {n : Nat} (h : n < 16) (v : Byte) (s : State) :
    memWrite (BitVec.ofNat 16 (0xC0E0 + n)) v s =
      diskAccess (BitVec.ofNat 16 (0xC0E0 + n)) (withBus s (BitVec.ofNat 16 (0xC0E0 + n)) v .write) := by
  have ht := diskAddr_toNat h
  have e : softSwitchWrite (0xE0 + n) s = s := by
    unfold softSwitchWrite
    repeat rw [if_neg (by omega)]
  have hw := notify_io_write (n := 0xE0 + n) (by omega) s v
  rw [e, ← Nat.add_assoc] at hw
  unfold memWrite
  rw [busSet_eq, ht, if_pos (by omega), hw]
  rfl

/-- Reading a word away from the soft-switch page. -/
theorem memRead16_plain {a : Word} (h : isIo a = false) (k : isIo (a + 1) = false) (s : State) :
    memRead16 a s =
      (wordOf (mappedByte s (a + 1)) (mappedByte s a),
        withBus (withBus s a (mappedByte s a) .read) (a + 1) (mappedByte s (a + 1)) .read) := by
  unfold memRead16
  rw [memRead_plain h]
  simp only
  rw [memRead_plain k, mappedByte_withBus]

end Sys2Proof.Machine
end

