-- ==== Sys2Proof/Laws/PerInstr.lean ====
section
/-! SUPPORT. What holds of every instruction as a term, one lemma per constructor (spec/30_encoding.md R142, R150). -/

namespace Sys2Proof.Laws.Encoding

open Sys2Proof.Machine

/-- The encoding starts with the opcode and has the length of the opcode's table row. -/
def Statement (i : Instr) : Prop :=
  (encode i).head? = some i.opcode ∧ (encode i).length = (opRow i.opcode).cost.size ∧ i.wellFormed = true

theorem ldaImm (imm : Byte) : Statement (.ldaImm imm) := ⟨rfl, rfl, rfl⟩
theorem ldaZp (addr : Byte) : Statement (.ldaZp addr) := ⟨rfl, rfl, rfl⟩
theorem ldaZpx (addr : Byte) : Statement (.ldaZpx addr) := ⟨rfl, rfl, rfl⟩
theorem ldaAbs (addr : Word) : Statement (.ldaAbs addr) := ⟨rfl, rfl, rfl⟩
theorem ldaAbx (addr : Word) : Statement (.ldaAbx addr) := ⟨rfl, rfl, rfl⟩
theorem ldaAby (addr : Word) : Statement (.ldaAby addr) := ⟨rfl, rfl, rfl⟩
theorem ldaIzx (ptr : Byte) : Statement (.ldaIzx ptr) := ⟨rfl, rfl, rfl⟩
theorem ldaIzy (ptr : Byte) : Statement (.ldaIzy ptr) := ⟨rfl, rfl, rfl⟩
theorem ldxImm (imm : Byte) : Statement (.ldxImm imm) := ⟨rfl, rfl, rfl⟩
theorem ldxZp (addr : Byte) : Statement (.ldxZp addr) := ⟨rfl, rfl, rfl⟩
theorem ldxZpy (addr : Byte) : Statement (.ldxZpy addr) := ⟨rfl, rfl, rfl⟩
theorem ldxAbs (addr : Word) : Statement (.ldxAbs addr) := ⟨rfl, rfl, rfl⟩
theorem ldxAby (addr : Word) : Statement (.ldxAby addr) := ⟨rfl, rfl, rfl⟩
theorem ldyImm (imm : Byte) : Statement (.ldyImm imm) := ⟨rfl, rfl, rfl⟩
theorem ldyZp (addr : Byte) : Statement (.ldyZp addr) := ⟨rfl, rfl, rfl⟩
theorem ldyZpx (addr : Byte) : Statement (.ldyZpx addr) := ⟨rfl, rfl, rfl⟩
theorem ldyAbs (addr : Word) : Statement (.ldyAbs addr) := ⟨rfl, rfl, rfl⟩
theorem ldyAbx (addr : Word) : Statement (.ldyAbx addr) := ⟨rfl, rfl, rfl⟩
theorem staZp (addr : Byte) : Statement (.staZp addr) := ⟨rfl, rfl, rfl⟩
theorem staZpx (addr : Byte) : Statement (.staZpx addr) := ⟨rfl, rfl, rfl⟩
theorem staAbs (addr : Word) : Statement (.staAbs addr) := ⟨rfl, rfl, rfl⟩
theorem staAbx (addr : Word) : Statement (.staAbx addr) := ⟨rfl, rfl, rfl⟩
theorem staAby (addr : Word) : Statement (.staAby addr) := ⟨rfl, rfl, rfl⟩
theorem staIzx (ptr : Byte) : Statement (.staIzx ptr) := ⟨rfl, rfl, rfl⟩
theorem staIzy (ptr : Byte) : Statement (.staIzy ptr) := ⟨rfl, rfl, rfl⟩
theorem stxZp (addr : Byte) : Statement (.stxZp addr) := ⟨rfl, rfl, rfl⟩
theorem stxZpy (addr : Byte) : Statement (.stxZpy addr) := ⟨rfl, rfl, rfl⟩
theorem stxAbs (addr : Word) : Statement (.stxAbs addr) := ⟨rfl, rfl, rfl⟩
theorem styZp (addr : Byte) : Statement (.styZp addr) := ⟨rfl, rfl, rfl⟩
theorem styZpx (addr : Byte) : Statement (.styZpx addr) := ⟨rfl, rfl, rfl⟩
theorem styAbs (addr : Word) : Statement (.styAbs addr) := ⟨rfl, rfl, rfl⟩
theorem tax : Statement .tax := ⟨rfl, rfl, rfl⟩
theorem tay : Statement .tay := ⟨rfl, rfl, rfl⟩
theorem txa : Statement .txa := ⟨rfl, rfl, rfl⟩
theorem tya : Statement .tya := ⟨rfl, rfl, rfl⟩
theorem tsx : Statement .tsx := ⟨rfl, rfl, rfl⟩
theorem txs : Statement .txs := ⟨rfl, rfl, rfl⟩
theorem adcImm (imm : Byte) : Statement (.adcImm imm) := ⟨rfl, rfl, rfl⟩
theorem adcZp (addr : Byte) : Statement (.adcZp addr) := ⟨rfl, rfl, rfl⟩
theorem adcZpx (addr : Byte) : Statement (.adcZpx addr) := ⟨rfl, rfl, rfl⟩
theorem adcAbs (addr : Word) : Statement (.adcAbs addr) := ⟨rfl, rfl, rfl⟩
theorem adcAbx (addr : Word) : Statement (.adcAbx addr) := ⟨rfl, rfl, rfl⟩
theorem adcAby (addr : Word) : Statement (.adcAby addr) := ⟨rfl, rfl, rfl⟩
theorem adcIzx (ptr : Byte) : Statement (.adcIzx ptr) := ⟨rfl, rfl, rfl⟩
theorem adcIzy (ptr : Byte) : Statement (.adcIzy ptr) := ⟨rfl, rfl, rfl⟩
theorem sbcImm (imm : Byte) : Statement (.sbcImm imm) := ⟨rfl, rfl, rfl⟩
theorem sbcZp (addr : Byte) : Statement (.sbcZp addr) := ⟨rfl, rfl, rfl⟩
theorem sbcZpx (addr : Byte) : Statement (.sbcZpx addr) := ⟨rfl, rfl, rfl⟩
theorem sbcAbs (addr : Word) : Statement (.sbcAbs addr) := ⟨rfl, rfl, rfl⟩
theorem sbcAbx (addr : Word) : Statement (.sbcAbx addr) := ⟨rfl, rfl, rfl⟩
theorem sbcAby (addr : Word) : Statement (.sbcAby addr) := ⟨rfl, rfl, rfl⟩
theorem sbcIzx (ptr : Byte) : Statement (.sbcIzx ptr) := ⟨rfl, rfl, rfl⟩
theorem sbcIzy (ptr : Byte) : Statement (.sbcIzy ptr) := ⟨rfl, rfl, rfl⟩
theorem andImm (imm : Byte) : Statement (.andImm imm) := ⟨rfl, rfl, rfl⟩
theorem andZp (addr : Byte) : Statement (.andZp addr) := ⟨rfl, rfl, rfl⟩
theorem andZpx (addr : Byte) : Statement (.andZpx addr) := ⟨rfl, rfl, rfl⟩
theorem andAbs (addr : Word) : Statement (.andAbs addr) := ⟨rfl, rfl, rfl⟩
theorem andAbx (addr : Word) : Statement (.andAbx addr) := ⟨rfl, rfl, rfl⟩
theorem andAby (addr : Word) : Statement (.andAby addr) := ⟨rfl, rfl, rfl⟩
theorem andIzx (ptr : Byte) : Statement (.andIzx ptr) := ⟨rfl, rfl, rfl⟩
theorem andIzy (ptr : Byte) : Statement (.andIzy ptr) := ⟨rfl, rfl, rfl⟩
theorem oraImm (imm : Byte) : Statement (.oraImm imm) := ⟨rfl, rfl, rfl⟩
theorem oraZp (addr : Byte) : Statement (.oraZp addr) := ⟨rfl, rfl, rfl⟩
theorem oraZpx (addr : Byte) : Statement (.oraZpx addr) := ⟨rfl, rfl, rfl⟩
theorem oraAbs (addr : Word) : Statement (.oraAbs addr) := ⟨rfl, rfl, rfl⟩
theorem oraAbx (addr : Word) : Statement (.oraAbx addr) := ⟨rfl, rfl, rfl⟩
theorem oraAby (addr : Word) : Statement (.oraAby addr) := ⟨rfl, rfl, rfl⟩
theorem oraIzx (ptr : Byte) : Statement (.oraIzx ptr) := ⟨rfl, rfl, rfl⟩
theorem oraIzy (ptr : Byte) : Statement (.oraIzy ptr) := ⟨rfl, rfl, rfl⟩
theorem eorImm (imm : Byte) : Statement (.eorImm imm) := ⟨rfl, rfl, rfl⟩
theorem eorZp (addr : Byte) : Statement (.eorZp addr) := ⟨rfl, rfl, rfl⟩
theorem eorZpx (addr : Byte) : Statement (.eorZpx addr) := ⟨rfl, rfl, rfl⟩
theorem eorAbs (addr : Word) : Statement (.eorAbs addr) := ⟨rfl, rfl, rfl⟩
theorem eorAbx (addr : Word) : Statement (.eorAbx addr) := ⟨rfl, rfl, rfl⟩
theorem eorAby (addr : Word) : Statement (.eorAby addr) := ⟨rfl, rfl, rfl⟩
theorem eorIzx (ptr : Byte) : Statement (.eorIzx ptr) := ⟨rfl, rfl, rfl⟩
theorem eorIzy (ptr : Byte) : Statement (.eorIzy ptr) := ⟨rfl, rfl, rfl⟩
theorem cmpImm (imm : Byte) : Statement (.cmpImm imm) := ⟨rfl, rfl, rfl⟩
theorem cmpZp (addr : Byte) : Statement (.cmpZp addr) := ⟨rfl, rfl, rfl⟩
theorem cmpZpx (addr : Byte) : Statement (.cmpZpx addr) := ⟨rfl, rfl, rfl⟩
theorem cmpAbs (addr : Word) : Statement (.cmpAbs addr) := ⟨rfl, rfl, rfl⟩
theorem cmpAbx (addr : Word) : Statement (.cmpAbx addr) := ⟨rfl, rfl, rfl⟩
theorem cmpAby (addr : Word) : Statement (.cmpAby addr) := ⟨rfl, rfl, rfl⟩
theorem cmpIzx (ptr : Byte) : Statement (.cmpIzx ptr) := ⟨rfl, rfl, rfl⟩
theorem cmpIzy (ptr : Byte) : Statement (.cmpIzy ptr) := ⟨rfl, rfl, rfl⟩
theorem cpxImm (imm : Byte) : Statement (.cpxImm imm) := ⟨rfl, rfl, rfl⟩
theorem cpxZp (addr : Byte) : Statement (.cpxZp addr) := ⟨rfl, rfl, rfl⟩
theorem cpxAbs (addr : Word) : Statement (.cpxAbs addr) := ⟨rfl, rfl, rfl⟩
theorem cpyImm (imm : Byte) : Statement (.cpyImm imm) := ⟨rfl, rfl, rfl⟩
theorem cpyZp (addr : Byte) : Statement (.cpyZp addr) := ⟨rfl, rfl, rfl⟩
theorem cpyAbs (addr : Word) : Statement (.cpyAbs addr) := ⟨rfl, rfl, rfl⟩
theorem bitZp (addr : Byte) : Statement (.bitZp addr) := ⟨rfl, rfl, rfl⟩
theorem bitAbs (addr : Word) : Statement (.bitAbs addr) := ⟨rfl, rfl, rfl⟩
theorem incZp (addr : Byte) : Statement (.incZp addr) := ⟨rfl, rfl, rfl⟩
theorem incZpx (addr : Byte) : Statement (.incZpx addr) := ⟨rfl, rfl, rfl⟩
theorem incAbs (addr : Word) : Statement (.incAbs addr) := ⟨rfl, rfl, rfl⟩
theorem incAbx (addr : Word) : Statement (.incAbx addr) := ⟨rfl, rfl, rfl⟩
theorem decZp (addr : Byte) : Statement (.decZp addr) := ⟨rfl, rfl, rfl⟩
theorem decZpx (addr : Byte) : Statement (.decZpx addr) := ⟨rfl, rfl, rfl⟩
theorem decAbs (addr : Word) : Statement (.decAbs addr) := ⟨rfl, rfl, rfl⟩
theorem decAbx (addr : Word) : Statement (.decAbx addr) := ⟨rfl, rfl, rfl⟩
theorem inx : Statement .inx := ⟨rfl, rfl, rfl⟩
theorem iny : Statement .iny := ⟨rfl, rfl, rfl⟩
theorem dex : Statement .dex := ⟨rfl, rfl, rfl⟩
theorem dey : Statement .dey := ⟨rfl, rfl, rfl⟩
theorem aslAcc : Statement .aslAcc := ⟨rfl, rfl, rfl⟩
theorem aslZp (addr : Byte) : Statement (.aslZp addr) := ⟨rfl, rfl, rfl⟩
theorem aslZpx (addr : Byte) : Statement (.aslZpx addr) := ⟨rfl, rfl, rfl⟩
theorem aslAbs (addr : Word) : Statement (.aslAbs addr) := ⟨rfl, rfl, rfl⟩
theorem aslAbx (addr : Word) : Statement (.aslAbx addr) := ⟨rfl, rfl, rfl⟩
theorem lsrAcc : Statement .lsrAcc := ⟨rfl, rfl, rfl⟩
theorem lsrZp (addr : Byte) : Statement (.lsrZp addr) := ⟨rfl, rfl, rfl⟩
theorem lsrZpx (addr : Byte) : Statement (.lsrZpx addr) := ⟨rfl, rfl, rfl⟩
theorem lsrAbs (addr : Word) : Statement (.lsrAbs addr) := ⟨rfl, rfl, rfl⟩
theorem lsrAbx (addr : Word) : Statement (.lsrAbx addr) := ⟨rfl, rfl, rfl⟩
theorem rolAcc : Statement .rolAcc := ⟨rfl, rfl, rfl⟩
theorem rolZp (addr : Byte) : Statement (.rolZp addr) := ⟨rfl, rfl, rfl⟩
theorem rolZpx (addr : Byte) : Statement (.rolZpx addr) := ⟨rfl, rfl, rfl⟩
theorem rolAbs (addr : Word) : Statement (.rolAbs addr) := ⟨rfl, rfl, rfl⟩
theorem rolAbx (addr : Word) : Statement (.rolAbx addr) := ⟨rfl, rfl, rfl⟩
theorem rorAcc : Statement .rorAcc := ⟨rfl, rfl, rfl⟩
theorem rorZp (addr : Byte) : Statement (.rorZp addr) := ⟨rfl, rfl, rfl⟩
theorem rorZpx (addr : Byte) : Statement (.rorZpx addr) := ⟨rfl, rfl, rfl⟩
theorem rorAbs (addr : Word) : Statement (.rorAbs addr) := ⟨rfl, rfl, rfl⟩
theorem rorAbx (addr : Word) : Statement (.rorAbx addr) := ⟨rfl, rfl, rfl⟩
theorem jmpAbs (addr : Word) : Statement (.jmpAbs addr) := ⟨rfl, rfl, rfl⟩
theorem jmpInd (ptr : Word) : Statement (.jmpInd ptr) := ⟨rfl, rfl, rfl⟩
theorem jsr (addr : Word) : Statement (.jsr addr) := ⟨rfl, rfl, rfl⟩
theorem rts : Statement .rts := ⟨rfl, rfl, rfl⟩
theorem bcc (offset : Byte) : Statement (.bcc offset) := ⟨rfl, rfl, rfl⟩
theorem bcs (offset : Byte) : Statement (.bcs offset) := ⟨rfl, rfl, rfl⟩
theorem beq (offset : Byte) : Statement (.beq offset) := ⟨rfl, rfl, rfl⟩
theorem bne (offset : Byte) : Statement (.bne offset) := ⟨rfl, rfl, rfl⟩
theorem bmi (offset : Byte) : Statement (.bmi offset) := ⟨rfl, rfl, rfl⟩
theorem bpl (offset : Byte) : Statement (.bpl offset) := ⟨rfl, rfl, rfl⟩
theorem bvc (offset : Byte) : Statement (.bvc offset) := ⟨rfl, rfl, rfl⟩
theorem bvs (offset : Byte) : Statement (.bvs offset) := ⟨rfl, rfl, rfl⟩
theorem pha : Statement .pha := ⟨rfl, rfl, rfl⟩
theorem pla : Statement .pla := ⟨rfl, rfl, rfl⟩
theorem php : Statement .php := ⟨rfl, rfl, rfl⟩
theorem plp : Statement .plp := ⟨rfl, rfl, rfl⟩
theorem clc : Statement .clc := ⟨rfl, rfl, rfl⟩
theorem sec : Statement .sec := ⟨rfl, rfl, rfl⟩
theorem cli : Statement .cli := ⟨rfl, rfl, rfl⟩
theorem sei : Statement .sei := ⟨rfl, rfl, rfl⟩
theorem cld : Statement .cld := ⟨rfl, rfl, rfl⟩
theorem sed : Statement .sed := ⟨rfl, rfl, rfl⟩
theorem clv : Statement .clv := ⟨rfl, rfl, rfl⟩
theorem brk (signature : Byte) : Statement (.brk signature) := ⟨rfl, rfl, rfl⟩
theorem rti : Statement .rti := ⟨rfl, rfl, rfl⟩
theorem nop : Statement .nop := ⟨rfl, rfl, rfl⟩
theorem slo03 (ptr : Byte) : Statement (.slo03 ptr) := ⟨rfl, rfl, rfl⟩
theorem nop04 (addr : Byte) : Statement (.nop04 addr) := ⟨rfl, rfl, rfl⟩
theorem slo07 (addr : Byte) : Statement (.slo07 addr) := ⟨rfl, rfl, rfl⟩
theorem anc0B (imm : Byte) : Statement (.anc0B imm) := ⟨rfl, rfl, rfl⟩
theorem nop0C (addr : Word) : Statement (.nop0C addr) := ⟨rfl, rfl, rfl⟩
theorem slo0F (addr : Word) : Statement (.slo0F addr) := ⟨rfl, rfl, rfl⟩
theorem slo13 (ptr : Byte) : Statement (.slo13 ptr) := ⟨rfl, rfl, rfl⟩
theorem nop14 (addr : Byte) : Statement (.nop14 addr) := ⟨rfl, rfl, rfl⟩
theorem slo17 (addr : Byte) : Statement (.slo17 addr) := ⟨rfl, rfl, rfl⟩
theorem slo1B (addr : Word) : Statement (.slo1B addr) := ⟨rfl, rfl, rfl⟩
theorem nop1C (addr : Word) : Statement (.nop1C addr) := ⟨rfl, rfl, rfl⟩
theorem slo1F (addr : Word) : Statement (.slo1F addr) := ⟨rfl, rfl, rfl⟩
theorem rla23 (ptr : Byte) : Statement (.rla23 ptr) := ⟨rfl, rfl, rfl⟩
theorem rla27 (addr : Byte) : Statement (.rla27 addr) := ⟨rfl, rfl, rfl⟩
theorem anc2B (imm : Byte) : Statement (.anc2B imm) := ⟨rfl, rfl, rfl⟩
theorem rla2F (addr : Word) : Statement (.rla2F addr) := ⟨rfl, rfl, rfl⟩
theorem rla33 (ptr : Byte) : Statement (.rla33 ptr) := ⟨rfl, rfl, rfl⟩
theorem nop34 (addr : Byte) : Statement (.nop34 addr) := ⟨rfl, rfl, rfl⟩
theorem rla37 (addr : Byte) : Statement (.rla37 addr) := ⟨rfl, rfl, rfl⟩
theorem rla3B (addr : Word) : Statement (.rla3B addr) := ⟨rfl, rfl, rfl⟩
theorem nop3C (addr : Word) : Statement (.nop3C addr) := ⟨rfl, rfl, rfl⟩
theorem rla3F (addr : Word) : Statement (.rla3F addr) := ⟨rfl, rfl, rfl⟩
theorem sre43 (ptr : Byte) : Statement (.sre43 ptr) := ⟨rfl, rfl, rfl⟩
theorem nop44 (addr : Byte) : Statement (.nop44 addr) := ⟨rfl, rfl, rfl⟩
theorem sre47 (addr : Byte) : Statement (.sre47 addr) := ⟨rfl, rfl, rfl⟩
theorem alr4B (imm : Byte) : Statement (.alr4B imm) := ⟨rfl, rfl, rfl⟩
theorem sre4F (addr : Word) : Statement (.sre4F addr) := ⟨rfl, rfl, rfl⟩
theorem sre53 (ptr : Byte) : Statement (.sre53 ptr) := ⟨rfl, rfl, rfl⟩
theorem nop54 (addr : Byte) : Statement (.nop54 addr) := ⟨rfl, rfl, rfl⟩
theorem sre57 (addr : Byte) : Statement (.sre57 addr) := ⟨rfl, rfl, rfl⟩
theorem sre5B (addr : Word) : Statement (.sre5B addr) := ⟨rfl, rfl, rfl⟩
theorem nop5C (addr : Word) : Statement (.nop5C addr) := ⟨rfl, rfl, rfl⟩
theorem sre5F (addr : Word) : Statement (.sre5F addr) := ⟨rfl, rfl, rfl⟩
theorem rra63 (ptr : Byte) : Statement (.rra63 ptr) := ⟨rfl, rfl, rfl⟩
theorem nop64 (addr : Byte) : Statement (.nop64 addr) := ⟨rfl, rfl, rfl⟩
theorem rra67 (addr : Byte) : Statement (.rra67 addr) := ⟨rfl, rfl, rfl⟩
theorem arr6B (imm : Byte) : Statement (.arr6B imm) := ⟨rfl, rfl, rfl⟩
theorem rra6F (addr : Word) : Statement (.rra6F addr) := ⟨rfl, rfl, rfl⟩
theorem rra73 (ptr : Byte) : Statement (.rra73 ptr) := ⟨rfl, rfl, rfl⟩
theorem nop74 (addr : Byte) : Statement (.nop74 addr) := ⟨rfl, rfl, rfl⟩
theorem rra77 (addr : Byte) : Statement (.rra77 addr) := ⟨rfl, rfl, rfl⟩
theorem rra7B (addr : Word) : Statement (.rra7B addr) := ⟨rfl, rfl, rfl⟩
theorem nop7C (addr : Word) : Statement (.nop7C addr) := ⟨rfl, rfl, rfl⟩
theorem rra7F (addr : Word) : Statement (.rra7F addr) := ⟨rfl, rfl, rfl⟩
theorem nop80 (imm : Byte) : Statement (.nop80 imm) := ⟨rfl, rfl, rfl⟩
theorem nop82 (imm : Byte) : Statement (.nop82 imm) := ⟨rfl, rfl, rfl⟩
theorem sax83 (ptr : Byte) : Statement (.sax83 ptr) := ⟨rfl, rfl, rfl⟩
theorem sax87 (addr : Byte) : Statement (.sax87 addr) := ⟨rfl, rfl, rfl⟩
theorem nop89 (imm : Byte) : Statement (.nop89 imm) := ⟨rfl, rfl, rfl⟩
theorem xaa8B (imm : Byte) : Statement (.xaa8B imm) := ⟨rfl, rfl, rfl⟩
theorem sax8F (addr : Word) : Statement (.sax8F addr) := ⟨rfl, rfl, rfl⟩
theorem ahx93 (ptr : Byte) : Statement (.ahx93 ptr) := ⟨rfl, rfl, rfl⟩
theorem sax97 (addr : Byte) : Statement (.sax97 addr) := ⟨rfl, rfl, rfl⟩
theorem tas9B (addr : Word) : Statement (.tas9B addr) := ⟨rfl, rfl, rfl⟩
theorem shy9C (addr : Word) : Statement (.shy9C addr) := ⟨rfl, rfl, rfl⟩
theorem shx9E (addr : Word) : Statement (.shx9E addr) := ⟨rfl, rfl, rfl⟩
theorem ahx9F (addr : Word) : Statement (.ahx9F addr) := ⟨rfl, rfl, rfl⟩
theorem laxA3 (ptr : Byte) : Statement (.laxA3 ptr) := ⟨rfl, rfl, rfl⟩
theorem laxA7 (addr : Byte) : Statement (.laxA7 addr) := ⟨rfl, rfl, rfl⟩
theorem laxAB (imm : Byte) : Statement (.laxAB imm) := ⟨rfl, rfl, rfl⟩
theorem laxAF (addr : Word) : Statement (.laxAF addr) := ⟨rfl, rfl, rfl⟩
theorem laxB3 (ptr : Byte) : Statement (.laxB3 ptr) := ⟨rfl, rfl, rfl⟩
theorem laxB7 (addr : Byte) : Statement (.laxB7 addr) := ⟨rfl, rfl, rfl⟩
theorem lasBB (addr : Word) : Statement (.lasBB addr) := ⟨rfl, rfl, rfl⟩
theorem laxBF (addr : Word) : Statement (.laxBF addr) := ⟨rfl, rfl, rfl⟩
theorem nopC2 (imm : Byte) : Statement (.nopC2 imm) := ⟨rfl, rfl, rfl⟩
theorem dcpC3 (ptr : Byte) : Statement (.dcpC3 ptr) := ⟨rfl, rfl, rfl⟩
theorem dcpC7 (addr : Byte) : Statement (.dcpC7 addr) := ⟨rfl, rfl, rfl⟩
theorem axsCB (imm : Byte) : Statement (.axsCB imm) := ⟨rfl, rfl, rfl⟩
theorem dcpCF (addr : Word) : Statement (.dcpCF addr) := ⟨rfl, rfl, rfl⟩
theorem dcpD3 (ptr : Byte) : Statement (.dcpD3 ptr) := ⟨rfl, rfl, rfl⟩
theorem nopD4 (addr : Byte) : Statement (.nopD4 addr) := ⟨rfl, rfl, rfl⟩
theorem dcpD7 (addr : Byte) : Statement (.dcpD7 addr) := ⟨rfl, rfl, rfl⟩
theorem dcpDB (addr : Word) : Statement (.dcpDB addr) := ⟨rfl, rfl, rfl⟩
theorem nopDC (addr : Word) : Statement (.nopDC addr) := ⟨rfl, rfl, rfl⟩
theorem dcpDF (addr : Word) : Statement (.dcpDF addr) := ⟨rfl, rfl, rfl⟩
theorem nopE2 (imm : Byte) : Statement (.nopE2 imm) := ⟨rfl, rfl, rfl⟩
theorem iscE3 (ptr : Byte) : Statement (.iscE3 ptr) := ⟨rfl, rfl, rfl⟩
theorem iscE7 (addr : Byte) : Statement (.iscE7 addr) := ⟨rfl, rfl, rfl⟩
theorem sbcEB (imm : Byte) : Statement (.sbcEB imm) := ⟨rfl, rfl, rfl⟩
theorem iscEF (addr : Word) : Statement (.iscEF addr) := ⟨rfl, rfl, rfl⟩
theorem iscF3 (ptr : Byte) : Statement (.iscF3 ptr) := ⟨rfl, rfl, rfl⟩
theorem nopF4 (addr : Byte) : Statement (.nopF4 addr) := ⟨rfl, rfl, rfl⟩
theorem iscF7 (addr : Byte) : Statement (.iscF7 addr) := ⟨rfl, rfl, rfl⟩
theorem iscFB (addr : Word) : Statement (.iscFB addr) := ⟨rfl, rfl, rfl⟩
theorem nopFC (addr : Word) : Statement (.nopFC addr) := ⟨rfl, rfl, rfl⟩
theorem iscFF (addr : Word) : Statement (.iscFF addr) := ⟨rfl, rfl, rfl⟩
theorem kil02 : Statement .kil02 := ⟨rfl, rfl, rfl⟩
theorem kil12 : Statement .kil12 := ⟨rfl, rfl, rfl⟩
theorem nop1A : Statement .nop1A := ⟨rfl, rfl, rfl⟩
theorem kil22 : Statement .kil22 := ⟨rfl, rfl, rfl⟩
theorem kil32 : Statement .kil32 := ⟨rfl, rfl, rfl⟩
theorem nop3A : Statement .nop3A := ⟨rfl, rfl, rfl⟩
theorem kil42 : Statement .kil42 := ⟨rfl, rfl, rfl⟩
theorem kil52 : Statement .kil52 := ⟨rfl, rfl, rfl⟩
theorem nop5A : Statement .nop5A := ⟨rfl, rfl, rfl⟩
theorem kil62 : Statement .kil62 := ⟨rfl, rfl, rfl⟩
theorem kil72 : Statement .kil72 := ⟨rfl, rfl, rfl⟩
theorem nop7A : Statement .nop7A := ⟨rfl, rfl, rfl⟩
theorem kil92 : Statement .kil92 := ⟨rfl, rfl, rfl⟩
theorem kilB2 : Statement .kilB2 := ⟨rfl, rfl, rfl⟩
theorem kilD2 : Statement .kilD2 := ⟨rfl, rfl, rfl⟩
theorem nopDA : Statement .nopDA := ⟨rfl, rfl, rfl⟩
theorem kilF2 : Statement .kilF2 := ⟨rfl, rfl, rfl⟩
theorem nopFA : Statement .nopFA := ⟨rfl, rfl, rfl⟩

end Sys2Proof.Laws.Encoding
end

