-- ==== Sys2Proof/Laws/Shapes.lean ====
section
/-! SUPPORT. What each shape of instruction leaves alone (spec/30_encoding.md R141, R148). -/

namespace Sys2Proof.Machine

theorem prepare_reg (m : Mode) (c : OpCost) (w : Word) (s : State) (r : Reg) :
    r.get (prepare m c w s).cpu = r.get s.cpu := by
  cases r <;> simp [Reg.get]

/-- A change of the registers alone, after `prepare`. -/
theorem register_frame {m : Mode} (hm : m ≠ .indirect) (c : OpCost) (w : Word) (s : State) (g : Cpu → Cpu)
    (regs : List Reg) (flags : List Flag) (hr : ∀ k, ∀ r ∈ regs, r.get (g k) = r.get k)
    (hf : ∀ k, ∀ f ∈ flags, getFlag (g k).p f = getFlag k.p f) (hi : ∀ k, (g k).irq = k.irq ∧ (g k).nmi = k.nmi) :
    Leaves regs flags s (onCpu g (prepare m c w s)) ∧ SameRam s (onCpu g (prepare m c w s)) ∧
      SameDevices s (onCpu g (prepare m c w s)) := by
  refine ⟨⟨?_, ?_, ?_, ?_, ?_⟩, ?_, ?_⟩
  · intro r h; rw [onCpu_cpu, hr _ r h, prepare_reg]
  · intro f h; rw [onCpu_cpu, hf _ f h, prepare_p]
  · rw [onCpu_cpu, (hi _).1]; exact prepare_irq m c w s
  · rw [onCpu_cpu, (hi _).2]; exact prepare_nmi m c w s
  · exact prepare_surroundings m c w s
  · intro bank off; rw [ramRead_onCpu, prepare_sameRam]
  · exact prepare_devices m c w s fun e => absurd e hm

/-- A read instruction. -/
theorem readOp_frame {m : Mode} (hm : m ≠ .indirect) (c : OpCost) (w : Word) (s : State) (g : Byte → Cpu → Cpu)
    (regs : List Reg) (flags : List Flag) (hr : ∀ v k, ∀ r ∈ regs, r.get (g v k) = r.get k)
    (hf : ∀ v k, ∀ f ∈ flags, getFlag (g v k).p f = getFlag k.p f)
    (hi : ∀ v k, (g v k).irq = k.irq ∧ (g v k).nmi = k.nmi) :
    Leaves regs flags s (readOp m c w g s) ∧ SameRam s (readOp m c w g s) ∧
      (isIo (prepare m c w s).cpu.al = false → SameDevices s (readOp m c w g s)) := by
  have hb := SameSurroundings.of_busFrame (memRead_frame (prepare m c w s).cpu.al (prepare m c w s))
  rw [readOp_eq]
  refine ⟨⟨?_, ?_, ?_, ?_, ?_⟩, ?_, ?_⟩
  · intro r h; rw [withCpu_cpu, hr _ _ r h, prepare_reg]
  · intro f h; rw [withCpu_cpu, hf _ _ f h, prepare_p]
  · rw [withCpu_cpu, (hi _ _).1]; exact prepare_irq m c w s
  · rw [withCpu_cpu, (hi _ _).2]; exact prepare_nmi m c w s
  · exact (prepare_surroundings m c w s).trans hb
  · intro bank off; rw [ramRead_withCpu, memRead_sameRam, prepare_sameRam]
  · intro h; exact (prepare_devices m c w s fun e => absurd e hm).trans (memRead_devices h _)

/-- A write instruction. -/
theorem writeOp_frame {m : Mode} (hm : m ≠ .indirect) (c : OpCost) (w : Word) (s : State) (g : Cpu → Byte) :
    Leaves [.A, .X, .Y, .SP] allFlags s (writeOp m c w g s) ∧
      RamStored (storedAt (prepare m c w s) (prepare m c w s).cpu.al) (g (prepare m c w s).cpu) s (writeOp m c w g s) ∧
      (isIo (prepare m c w s).cpu.al = false → SameDevices s (writeOp m c w g s)) := by
  unfold writeOp
  refine ⟨⟨?_, ?_, ?_, ?_, ?_⟩, ?_, ?_⟩
  · intro r h; cases r <;> simp [Reg.get]
  · intro f h; simp
  · simp
  · simp
  · exact (prepare_surroundings m c w s).trans (.of_busFrame (memWrite_frame _ _ _))
  · intro bank off
    simp only
    rw [memWrite_ramStored, prepare_sameRam]
  · intro h; exact (prepare_devices m c w s fun e => absurd e hm).trans (memWrite_devices h _ _)

/-- A read-modify-write instruction. -/
theorem modifyOp_frame {m : Mode} (hm : m ≠ .indirect) (c : OpCost) (w : Word) (s : State)
    (g : Byte → Byte → Byte × Byte) (flags : List Flag)
    (hf : ∀ v p, ∀ f ∈ flags, getFlag (g v p).2 f = getFlag p f) :
    Leaves [.A, .X, .Y, .SP] flags s (modifyOp m c w g s) ∧
      SameRamExcept
        (storedAt (memRead (prepare m c w s).cpu.al (prepare m c w s)).2 (prepare m c w s).cpu.al).toList s
        (modifyOp m c w g s) ∧
      (isIo (prepare m c w s).cpu.al = false → SameDevices s (modifyOp m c w g s)) := by
  have hb := SameSurroundings.of_busFrame (memRead_frame (prepare m c w s).cpu.al (prepare m c w s))
  have hw : ∀ v, SameSurroundings (memRead (prepare m c w s).cpu.al (prepare m c w s)).2
      (memWrite (prepare m c w s).cpu.al v (memRead (prepare m c w s).cpu.al (prepare m c w s)).2) :=
    fun v => .of_busFrame (memWrite_frame _ _ _)
  rw [modifyOp_eq]
  refine ⟨⟨?_, ?_, ?_, ?_, ?_⟩, ?_, ?_⟩
  · intro r h; cases r <;> simp [Reg.get]
  · intro f h
    rw [withCpu_cpu]
    simp only
    rw [hf _ _ f h]
  · simp
  · simp
  · exact ((prepare_surroundings m c w s).trans hb).trans (hw _)
  · intro bank off h
    rw [ramRead_withCpu, memWrite_ramStored, if_neg, memRead_sameRam, prepare_sameRam]
    intro e
    rw [e] at h
    simp at h
  · intro h
    exact ((prepare_devices m c w s fun e => absurd e hm).trans (memRead_devices h _)).trans (memWrite_devices h _ _)

end Sys2Proof.Machine
end

