-- ==== Sys2Proof/Laws/Stack.lean ====
section
/-! SUPPORT. What the stack operations do to the CPU, to RAM and to the devices (spec/10_state.md R27, R28). -/

namespace Sys2Proof.Machine

theorem push8_cpu (v : Byte) (s : State) : (push8 v s).cpu = { s.cpu with sp := s.cpu.sp - 1 } := by
  rw [push8_eq]
  simp

theorem push8_sw (v : Byte) (s : State) : (push8 v s).sw = s.sw := by
  rw [push8_eq]
  simp

theorem push8_devices (v : Byte) (s : State) : SameDevices s (push8 v s) := by
  rw [push8_eq]
  refine ⟨?_, ?_, ?_, ?_, ?_⟩ <;> simp

/-- A push stores its byte at the stack top and nowhere else. -/
theorem push8_ram (v : Byte) (s : State) (bank : Bank) (off : Nat) :
    ramRead (push8 v s) bank off = if stackPlace s s.cpu.sp = (bank, off) then v else ramRead s bank off := by
  rw [push8_eq, ramRead_onCpu, ramRead_ramWrite]
  simp [stackPlace]

theorem pull8_fst (s : State) : (pull8 s).1 = stackByte s (s.cpu.sp + 1) := by rw [pull8_eq]; rfl

theorem pull8_cpu (s : State) : (pull8 s).2.cpu = { s.cpu with sp := s.cpu.sp + 1 } := by rw [pull8_eq]; rfl

theorem pull8_sw (s : State) : (pull8 s).2.sw = s.sw := by rw [pull8_eq]; rfl

theorem pull8_ram (s : State) (bank : Bank) (off : Nat) : ramRead (pull8 s).2 bank off = ramRead s bank off := by
  rw [pull8_eq]
  simp

theorem pull8_devices (s : State) : SameDevices s (pull8 s).2 := by
  rw [pull8_eq]
  exact ⟨rfl, rfl, rfl, rfl, rfl⟩

/-- Different stack pointers name different bytes. -/
theorem stackPlace_ne (s : State) {a b : Byte} (h : a ≠ b) : stackPlace s a ≠ stackPlace s b := by
  simp only [stackPlace, ne_eq, Prod.mk.injEq, not_and]
  intro _ h2
  exact h (BitVec.eq_of_toNat_eq (by omega))

theorem push16_cpu (w : Word) (s : State) : (push16 w s).cpu = { s.cpu with sp := s.cpu.sp - 2 } := by
  have h : s.cpu.sp - 1 - 1 = s.cpu.sp - 2 := by bv_omega
  unfold push16
  rw [push8_cpu, push8_cpu]
  simp only [h]

theorem push16_sw (w : Word) (s : State) : (push16 w s).sw = s.sw := by
  unfold push16
  rw [push8_sw, push8_sw]

theorem push16_devices (w : Word) (s : State) : SameDevices s (push16 w s) := (push8_devices _ _).trans (push8_devices _ _)

/-- The high byte at the stack top, the low byte below it, and nothing else (R28). -/
theorem push16_ram (w : Word) (s : State) (bank : Bank) (off : Nat) :
    ramRead (push16 w s) bank off =
      if stackPlace s (s.cpu.sp - 1) = (bank, off) then loByte w
      else if stackPlace s s.cpu.sp = (bank, off) then hiByte w
      else ramRead s bank off := by
  unfold push16
  rw [push8_ram, push8_ram, push8_cpu]
  simp only [stackPlace, push8_sw]
  congr

theorem pull16_fst (s : State) :
    (pull16 s).1 = wordOf (stackByte s (s.cpu.sp + 2)) (stackByte s (s.cpu.sp + 1)) := by
  have h : s.cpu.sp + 1 + 1 = s.cpu.sp + 2 := by bv_omega
  unfold pull16
  simp only [pull8_fst, pull8_cpu]
  rw [h]
  unfold stackByte
  rw [pull8_ram, pull8_sw]

theorem pull16_cpu (s : State) : (pull16 s).2.cpu = { s.cpu with sp := s.cpu.sp + 2 } := by
  have h : s.cpu.sp + 1 + 1 = s.cpu.sp + 2 := by bv_omega
  unfold pull16
  simp only [pull8_cpu]
  rw [h]

theorem pull16_sw (s : State) : (pull16 s).2.sw = s.sw := by
  unfold pull16
  simp only [pull8_sw]

theorem pull16_ram (s : State) (bank : Bank) (off : Nat) : ramRead (pull16 s).2 bank off = ramRead s bank off := by
  unfold pull16
  simp only [pull8_ram]

theorem pull16_devices (s : State) : SameDevices s (pull16 s).2 := (pull8_devices _).trans (pull8_devices _)

/-- The stack read the same way where RAM, its bank and SP are the same. -/
theorem SameStack.byte {s t : State} (h : SameStack s t) (sp : Byte) : stackByte t sp = stackByte s sp := by
  unfold stackByte
  rw [h.2.1, h.1]

end Sys2Proof.Machine
end

