-- ==== Sys2Proof/Tests/Slice0.lean ====
section
/-! SUPPORT. The model's own tests, each on one step or one access; expected values are those of
spec/95_test_vectors.md and spec/47_video_rasterizer.md R473, or written out from the encoding tables
(spec/30_encoding.md R150, R153). Then the witnesses: for each obligation with hypotheses, a state and operands
that meet them. -/

namespace Sys2Proof.Tests

open Sys2Proof Sys2Proof.Machine

/-- A running machine after reset with bytes placed through the address map, PC at `pc`. -/
def machine (a x y sp p : Byte) (pc : Word) (bytes : List (Word × Byte)) : State :=
  let s :=
    { State.reset with
      seq := ⟨0, true⟩
      cpu := { State.reset.cpu with a := a, x := x, y := y, sp := sp, p := p, pc := pc } }
  bytes.foldl (fun t c => placeByte c.1 c.2 t) s

/-- A, X, Y, SP, P, PC and the cycle count after one step, then the bytes at the addresses listed. -/
def after (s : State) (looks : List Word) : Option (List Nat) :=
  match step s with
  | .next t =>
    some ([t.cpu.a.toNat, t.cpu.x.toNat, t.cpu.y.toNat, t.cpu.sp.toNat, t.cpu.p.toNat, t.cpu.pc.toNat,
      t.cpu.cycleCount.toNat] ++ looks.map fun a => (peek t a).toNat)
  | .fault _ => none
  | .refused _ => none

/-- One access: an address, and the byte of a write. -/
abbrev Access := Word × Option Byte

/-- The bytes the reads of a list of accesses return, and the state after. -/
def perform : List Access → State → List Byte × State
  | [], s => ([], s)
  | (a, none) :: rest, s =>
    let r := memRead a s
    let t := perform rest r.2
    (r.1 :: t.1, t.2)
  | (a, some v) :: rest, s => perform rest (memWrite a v s)

/-- The machine the access vectors start from. -/
def idle : State := machine 0 0 0 0xFD 0x24 0x0300 []

/-- The same with a diskette whose first sector begins with the byte $01. -/
def withDisk : State := { idle with disk := { idle.disk with disk1 := some ⟨143360, [(0, 0x01)]⟩ } }

/-! ### WellFormed: what the checks refuse -/

theorem test_ill_formed_cost_of_size_zero : OpCost.wellFormed ⟨0, 2, 0⟩ = false := by decide
theorem test_ill_formed_cost_of_size_four : OpCost.wellFormed ⟨4, 2, 0⟩ = false := by decide
theorem test_well_formed_cost : OpCost.wellFormed ⟨3, 7, 0⟩ = true := by decide
theorem test_ill_formed_illegal_table :
    Params.wellFormed { Config.defaultParams with illegalTable := [(0x02, ⟨.implied, ⟨0, 2, 0⟩⟩)] } = false := by
  simp [Params.wellFormed, OpCost.wellFormed]
theorem test_ill_formed_palette : Params.wellFormed { Config.defaultParams with palette := [] } = false := by
  simp [Params.wellFormed]
theorem test_ill_formed_table : Params.wellFormed { Config.defaultParams with dhrTo := [] } = false := by
  simp [Params.wellFormed]
theorem test_ill_formed_rom_beyond_its_end :
    Params.wellFormed { Config.defaultParams with sysRom := [(16384, 0x01)] } = false := by rfl
theorem test_ill_formed_rom_out_of_order :
    Params.wellFormed { Config.defaultParams with bootProm := [(2, 0x01), (1, 0x01)] } = false := by rfl
theorem test_ill_formed_rom_lists_a_zero :
    Params.wellFormed { Config.defaultParams with charRom := [(2, 0x00)] } = false := by rfl
theorem test_ill_formed_image_size : DiskImage.wf ⟨143359, []⟩ = false := by decide
theorem test_well_formed_image : DiskImage.wf ⟨143360, [(143359, 0x01)]⟩ = true := by decide
theorem test_ill_formed_memory : Memory.wf [(1, 0xFF)] = false := by decide
theorem test_memory_write_of_pattern_byte : Memory.write [(1, 0x12)] 1 0xFF = [] := by decide

/-! ### Decoding, every opcode: words written out from the tables -/

/-- The instruction each word decodes to. -/
def decodings (words : List (Nat × Nat)) : List (Option Instr) := words.map fun e => decodeTableWord e.1 e.2

theorem test_decode_row0 :
    decodings
        [(16, 0x3400), (16, 0x3401), (8, 0x02), (16, 0x3403),
          (16, 0x3404), (16, 0x3405), (16, 0x3406), (16, 0x3407),
          (8, 0x08), (16, 0x3409), (8, 0x0A), (16, 0x340B),
          (24, 0x12340C), (24, 0x12340D), (24, 0x12340E), (24, 0x12340F)] =
      [some (.brk 0x34), some (.oraIzx 0x34), some .kil02, some (.slo03 0x34),
        some (.nop04 0x34), some (.oraZp 0x34), some (.aslZp 0x34), some (.slo07 0x34),
        some .php, some (.oraImm 0x34), some .aslAcc, some (.anc0B 0x34),
        some (.nop0C 0x1234), some (.oraAbs 0x1234), some (.aslAbs 0x1234), some (.slo0F 0x1234)] := by
  decide
theorem test_decode_row1 :
    decodings
        [(16, 0x3410), (16, 0x3411), (8, 0x12), (16, 0x3413),
          (16, 0x3414), (16, 0x3415), (16, 0x3416), (16, 0x3417),
          (8, 0x18), (24, 0x123419), (8, 0x1A), (24, 0x12341B),
          (24, 0x12341C), (24, 0x12341D), (24, 0x12341E), (24, 0x12341F)] =
      [some (.bpl 0x34), some (.oraIzy 0x34), some .kil12, some (.slo13 0x34),
        some (.nop14 0x34), some (.oraZpx 0x34), some (.aslZpx 0x34), some (.slo17 0x34),
        some .clc, some (.oraAby 0x1234), some .nop1A, some (.slo1B 0x1234),
        some (.nop1C 0x1234), some (.oraAbx 0x1234), some (.aslAbx 0x1234), some (.slo1F 0x1234)] := by
  decide
theorem test_decode_row2 :
    decodings
        [(24, 0x123420), (16, 0x3421), (8, 0x22), (16, 0x3423),
          (16, 0x3424), (16, 0x3425), (16, 0x3426), (16, 0x3427),
          (8, 0x28), (16, 0x3429), (8, 0x2A), (16, 0x342B),
          (24, 0x12342C), (24, 0x12342D), (24, 0x12342E), (24, 0x12342F)] =
      [some (.jsr 0x1234), some (.andIzx 0x34), some .kil22, some (.rla23 0x34),
        some (.bitZp 0x34), some (.andZp 0x34), some (.rolZp 0x34), some (.rla27 0x34),
        some .plp, some (.andImm 0x34), some .rolAcc, some (.anc2B 0x34),
        some (.bitAbs 0x1234), some (.andAbs 0x1234), some (.rolAbs 0x1234), some (.rla2F 0x1234)] := by
  decide
theorem test_decode_row3 :
    decodings
        [(16, 0x3430), (16, 0x3431), (8, 0x32), (16, 0x3433),
          (16, 0x3434), (16, 0x3435), (16, 0x3436), (16, 0x3437),
          (8, 0x38), (24, 0x123439), (8, 0x3A), (24, 0x12343B),
          (24, 0x12343C), (24, 0x12343D), (24, 0x12343E), (24, 0x12343F)] =
      [some (.bmi 0x34), some (.andIzy 0x34), some .kil32, some (.rla33 0x34),
        some (.nop34 0x34), some (.andZpx 0x34), some (.rolZpx 0x34), some (.rla37 0x34),
        some .sec, some (.andAby 0x1234), some .nop3A, some (.rla3B 0x1234),
        some (.nop3C 0x1234), some (.andAbx 0x1234), some (.rolAbx 0x1234), some (.rla3F 0x1234)] := by
  decide
theorem test_decode_row4 :
    decodings
        [(8, 0x40), (16, 0x3441), (8, 0x42), (16, 0x3443),
          (16, 0x3444), (16, 0x3445), (16, 0x3446), (16, 0x3447),
          (8, 0x48), (16, 0x3449), (8, 0x4A), (16, 0x344B),
          (24, 0x12344C), (24, 0x12344D), (24, 0x12344E), (24, 0x12344F)] =
      [some .rti, some (.eorIzx 0x34), some .kil42, some (.sre43 0x34),
        some (.nop44 0x34), some (.eorZp 0x34), some (.lsrZp 0x34), some (.sre47 0x34),
        some .pha, some (.eorImm 0x34), some .lsrAcc, some (.alr4B 0x34),
        some (.jmpAbs 0x1234), some (.eorAbs 0x1234), some (.lsrAbs 0x1234), some (.sre4F 0x1234)] := by
  decide
theorem test_decode_row5 :
    decodings
        [(16, 0x3450), (16, 0x3451), (8, 0x52), (16, 0x3453),
          (16, 0x3454), (16, 0x3455), (16, 0x3456), (16, 0x3457),
          (8, 0x58), (24, 0x123459), (8, 0x5A), (24, 0x12345B),
          (24, 0x12345C), (24, 0x12345D), (24, 0x12345E), (24, 0x12345F)] =
      [some (.bvc 0x34), some (.eorIzy 0x34), some .kil52, some (.sre53 0x34),
        some (.nop54 0x34), some (.eorZpx 0x34), some (.lsrZpx 0x34), some (.sre57 0x34),
        some .cli, some (.eorAby 0x1234), some .nop5A, some (.sre5B 0x1234),
        some (.nop5C 0x1234), some (.eorAbx 0x1234), some (.lsrAbx 0x1234), some (.sre5F 0x1234)] := by
  decide
theorem test_decode_row6 :
    decodings
        [(8, 0x60), (16, 0x3461), (8, 0x62), (16, 0x3463),
          (16, 0x3464), (16, 0x3465), (16, 0x3466), (16, 0x3467),
          (8, 0x68), (16, 0x3469), (8, 0x6A), (16, 0x346B),
          (24, 0x12346C), (24, 0x12346D), (24, 0x12346E), (24, 0x12346F)] =
      [some .rts, some (.adcIzx 0x34), some .kil62, some (.rra63 0x34),
        some (.nop64 0x34), some (.adcZp 0x34), some (.rorZp 0x34), some (.rra67 0x34),
        some .pla, some (.adcImm 0x34), some .rorAcc, some (.arr6B 0x34),
        some (.jmpInd 0x1234), some (.adcAbs 0x1234), some (.rorAbs 0x1234), some (.rra6F 0x1234)] := by
  decide
theorem test_decode_row7 :
    decodings
        [(16, 0x3470), (16, 0x3471), (8, 0x72), (16, 0x3473),
          (16, 0x3474), (16, 0x3475), (16, 0x3476), (16, 0x3477),
          (8, 0x78), (24, 0x123479), (8, 0x7A), (24, 0x12347B),
          (24, 0x12347C), (24, 0x12347D), (24, 0x12347E), (24, 0x12347F)] =
      [some (.bvs 0x34), some (.adcIzy 0x34), some .kil72, some (.rra73 0x34),
        some (.nop74 0x34), some (.adcZpx 0x34), some (.rorZpx 0x34), some (.rra77 0x34),
        some .sei, some (.adcAby 0x1234), some .nop7A, some (.rra7B 0x1234),
        some (.nop7C 0x1234), some (.adcAbx 0x1234), some (.rorAbx 0x1234), some (.rra7F 0x1234)] := by
  decide
theorem test_decode_row8 :
    decodings
        [(16, 0x3480), (16, 0x3481), (16, 0x3482), (16, 0x3483),
          (16, 0x3484), (16, 0x3485), (16, 0x3486), (16, 0x3487),
          (8, 0x88), (16, 0x3489), (8, 0x8A), (16, 0x348B),
          (24, 0x12348C), (24, 0x12348D), (24, 0x12348E), (24, 0x12348F)] =
      [some (.nop80 0x34), some (.staIzx 0x34), some (.nop82 0x34), some (.sax83 0x34),
        some (.styZp 0x34), some (.staZp 0x34), some (.stxZp 0x34), some (.sax87 0x34),
        some .dey, some (.nop89 0x34), some .txa, some (.xaa8B 0x34),
        some (.styAbs 0x1234), some (.staAbs 0x1234), some (.stxAbs 0x1234), some (.sax8F 0x1234)] := by
  decide
theorem test_decode_row9 :
    decodings
        [(16, 0x3490), (16, 0x3491), (8, 0x92), (16, 0x3493),
          (16, 0x3494), (16, 0x3495), (16, 0x3496), (16, 0x3497),
          (8, 0x98), (24, 0x123499), (8, 0x9A), (24, 0x12349B),
          (24, 0x12349C), (24, 0x12349D), (24, 0x12349E), (24, 0x12349F)] =
      [some (.bcc 0x34), some (.staIzy 0x34), some .kil92, some (.ahx93 0x34),
        some (.styZpx 0x34), some (.staZpx 0x34), some (.stxZpy 0x34), some (.sax97 0x34),
        some .tya, some (.staAby 0x1234), some .txs, some (.tas9B 0x1234),
        some (.shy9C 0x1234), some (.staAbx 0x1234), some (.shx9E 0x1234), some (.ahx9F 0x1234)] := by
  decide
theorem test_decode_rowA :
    decodings
        [(16, 0x34A0), (16, 0x34A1), (16, 0x34A2), (16, 0x34A3),
          (16, 0x34A4), (16, 0x34A5), (16, 0x34A6), (16, 0x34A7),
          (8, 0xA8), (16, 0x34A9), (8, 0xAA), (16, 0x34AB),
          (24, 0x1234AC), (24, 0x1234AD), (24, 0x1234AE), (24, 0x1234AF)] =
      [some (.ldyImm 0x34), some (.ldaIzx 0x34), some (.ldxImm 0x34), some (.laxA3 0x34),
        some (.ldyZp 0x34), some (.ldaZp 0x34), some (.ldxZp 0x34), some (.laxA7 0x34),
        some .tay, some (.ldaImm 0x34), some .tax, some (.laxAB 0x34),
        some (.ldyAbs 0x1234), some (.ldaAbs 0x1234), some (.ldxAbs 0x1234), some (.laxAF 0x1234)] := by
  decide
theorem test_decode_rowB :
    decodings
        [(16, 0x34B0), (16, 0x34B1), (8, 0xB2), (16, 0x34B3),
          (16, 0x34B4), (16, 0x34B5), (16, 0x34B6), (16, 0x34B7),
          (8, 0xB8), (24, 0x1234B9), (8, 0xBA), (24, 0x1234BB),
          (24, 0x1234BC), (24, 0x1234BD), (24, 0x1234BE), (24, 0x1234BF)] =
      [some (.bcs 0x34), some (.ldaIzy 0x34), some .kilB2, some (.laxB3 0x34),
        some (.ldyZpx 0x34), some (.ldaZpx 0x34), some (.ldxZpy 0x34), some (.laxB7 0x34),
        some .clv, some (.ldaAby 0x1234), some .tsx, some (.lasBB 0x1234),
        some (.ldyAbx 0x1234), some (.ldaAbx 0x1234), some (.ldxAby 0x1234), some (.laxBF 0x1234)] := by
  decide
theorem test_decode_rowC :
    decodings
        [(16, 0x34C0), (16, 0x34C1), (16, 0x34C2), (16, 0x34C3),
          (16, 0x34C4), (16, 0x34C5), (16, 0x34C6), (16, 0x34C7),
          (8, 0xC8), (16, 0x34C9), (8, 0xCA), (16, 0x34CB),
          (24, 0x1234CC), (24, 0x1234CD), (24, 0x1234CE), (24, 0x1234CF)] =
      [some (.cpyImm 0x34), some (.cmpIzx 0x34), some (.nopC2 0x34), some (.dcpC3 0x34),
        some (.cpyZp 0x34), some (.cmpZp 0x34), some (.decZp 0x34), some (.dcpC7 0x34),
        some .iny, some (.cmpImm 0x34), some .dex, some (.axsCB 0x34),
        some (.cpyAbs 0x1234), some (.cmpAbs 0x1234), some (.decAbs 0x1234), some (.dcpCF 0x1234)] := by
  decide
theorem test_decode_rowD :
    decodings
        [(16, 0x34D0), (16, 0x34D1), (8, 0xD2), (16, 0x34D3),
          (16, 0x34D4), (16, 0x34D5), (16, 0x34D6), (16, 0x34D7),
          (8, 0xD8), (24, 0x1234D9), (8, 0xDA), (24, 0x1234DB),
          (24, 0x1234DC), (24, 0x1234DD), (24, 0x1234DE), (24, 0x1234DF)] =
      [some (.bne 0x34), some (.cmpIzy 0x34), some .kilD2, some (.dcpD3 0x34),
        some (.nopD4 0x34), some (.cmpZpx 0x34), some (.decZpx 0x34), some (.dcpD7 0x34),
        some .cld, some (.cmpAby 0x1234), some .nopDA, some (.dcpDB 0x1234),
        some (.nopDC 0x1234), some (.cmpAbx 0x1234), some (.decAbx 0x1234), some (.dcpDF 0x1234)] := by
  decide
theorem test_decode_rowE :
    decodings
        [(16, 0x34E0), (16, 0x34E1), (16, 0x34E2), (16, 0x34E3),
          (16, 0x34E4), (16, 0x34E5), (16, 0x34E6), (16, 0x34E7),
          (8, 0xE8), (16, 0x34E9), (8, 0xEA), (16, 0x34EB),
          (24, 0x1234EC), (24, 0x1234ED), (24, 0x1234EE), (24, 0x1234EF)] =
      [some (.cpxImm 0x34), some (.sbcIzx 0x34), some (.nopE2 0x34), some (.iscE3 0x34),
        some (.cpxZp 0x34), some (.sbcZp 0x34), some (.incZp 0x34), some (.iscE7 0x34),
        some .inx, some (.sbcImm 0x34), some .nop, some (.sbcEB 0x34),
        some (.cpxAbs 0x1234), some (.sbcAbs 0x1234), some (.incAbs 0x1234), some (.iscEF 0x1234)] := by
  decide
theorem test_decode_rowF :
    decodings
        [(16, 0x34F0), (16, 0x34F1), (8, 0xF2), (16, 0x34F3),
          (16, 0x34F4), (16, 0x34F5), (16, 0x34F6), (16, 0x34F7),
          (8, 0xF8), (24, 0x1234F9), (8, 0xFA), (24, 0x1234FB),
          (24, 0x1234FC), (24, 0x1234FD), (24, 0x1234FE), (24, 0x1234FF)] =
      [some (.beq 0x34), some (.sbcIzy 0x34), some .kilF2, some (.iscF3 0x34),
        some (.nopF4 0x34), some (.sbcZpx 0x34), some (.incZpx 0x34), some (.iscF7 0x34),
        some .sed, some (.sbcAby 0x1234), some .nopFA, some (.iscFB 0x1234),
        some (.nopFC 0x1234), some (.sbcAbx 0x1234), some (.incAbx 0x1234), some (.iscFF 0x1234)] := by
  decide

theorem test_decode_too_short : decode [0xAD, 0x34] = .error .truncated := by rfl
theorem test_assembly_izx : assembly (.ldaIzx 0x10) = "LDA ($10,X)" := by decide
theorem test_assembly_abs : assembly (.ldaAbs 0x1234) = "LDA $1234" := by decide
theorem test_assembly_branch : assembly (.bne 0xFB) = "BNE *-3" := by decide

/-! ### One step, by the CPU vectors -/

theorem test_V8_lda_fe_x_x_1_pointer_at_ff_00 :
    after (machine 0x00 0x01 0x00 0xFD 0x24 0x0300
        [(0x0300, 0xA1), (0x0301, 0xFE), (0x0000, 0x12), (0x00FF, 0x34), (0x0100, 0x99), (0x1234, 0x5A)]) [] =
      some [0x5A, 0x01, 0x00, 0xFD, 0x24, 0x0302, 6] := by
  decide
theorem test_V10_lda_ff_y_pointer_wraps :
    after (machine 0x00 0x00 0x00 0xFD 0x24 0x0300
        [(0x0300, 0xB1), (0x0301, 0xFF), (0x0000, 0x40), (0x00FF, 0x00), (0x0100, 0x50), (0x4000, 0x77)]) [] =
      some [0x77, 0x00, 0x00, 0xFD, 0x24, 0x0302, 5] := by
  decide
theorem test_V12_ldx_10_y :
    after (machine 0x00 0x00 0xF5 0xFD 0x24 0x0300
        [(0x0300, 0xB6), (0x0301, 0x10), (0x0005, 0x80)]) [] =
      some [0x00, 0x80, 0xF5, 0xFD, 0xA4, 0x0302, 4] := by
  decide
theorem test_V13_ldx_12f0_y_page_cross :
    after (machine 0x00 0x00 0x20 0xFD 0x24 0x0300
        [(0x0300, 0xBE), (0x0301, 0xF0), (0x0302, 0x12), (0x1310, 0x07)]) [] =
      some [0x00, 0x07, 0x20, 0xFD, 0x24, 0x0303, 5] := by
  decide
theorem test_V14_ldy_1280_x_page_cross :
    after (machine 0x00 0x80 0x00 0xFD 0x24 0x0300
        [(0x0300, 0xBC), (0x0301, 0x80), (0x0302, 0x12), (0x1300, 0x00)]) [] =
      some [0x00, 0x80, 0x00, 0xFD, 0x26, 0x0303, 5] := by
  decide
theorem test_V15_sta_12ff_x_no_penalty_on_store :
    after (machine 0xAB 0x01 0x00 0xFD 0x24 0x0300
        [(0x0300, 0x9D), (0x0301, 0xFF), (0x0302, 0x12)]) [0x1300] =
      some [0xAB, 0x01, 0x00, 0xFD, 0x24, 0x0303, 5, 0xAB] := by
  decide
theorem test_V16_sta_20_y_page_cross_no_penalty :
    after (machine 0x5A 0x00 0xFF 0xFD 0x24 0x0300
        [(0x0300, 0x91), (0x0301, 0x20), (0x0020, 0x01), (0x0021, 0x20)]) [0x2100] =
      some [0x5A, 0x00, 0xFF, 0xFD, 0x24, 0x0302, 6, 0x5A] := by
  decide
theorem test_V18_stx_10_y :
    after (machine 0x00 0x3C 0x01 0xFD 0x24 0x0300
        [(0x0300, 0x96), (0x0301, 0x10)]) [0x0011] =
      some [0x00, 0x3C, 0x01, 0xFD, 0x24, 0x0302, 4, 0x3C] := by
  decide
theorem test_V19_sty_10_x :
    after (machine 0x00 0xFF 0x3D 0xFD 0x24 0x0300
        [(0x0300, 0x94), (0x0301, 0x10)]) [0x000F] =
      some [0x00, 0xFF, 0x3D, 0xFD, 0x24, 0x0302, 4, 0x3D] := by
  decide
theorem test_V21_tax :
    after (machine 0x00 0x55 0x00 0xFD 0x24 0x0300
        [(0x0300, 0xAA)]) [] =
      some [0x00, 0x00, 0x00, 0xFD, 0x26, 0x0301, 2] := by
  decide
theorem test_V22_tay :
    after (machine 0x90 0x00 0x00 0xFD 0x24 0x0300
        [(0x0300, 0xA8)]) [] =
      some [0x90, 0x00, 0x90, 0xFD, 0xA4, 0x0301, 2] := by
  decide
theorem test_V23_txa :
    after (machine 0xFF 0x01 0x00 0xFD 0x24 0x0300
        [(0x0300, 0x8A)]) [] =
      some [0x01, 0x01, 0x00, 0xFD, 0x24, 0x0301, 2] := by
  decide
theorem test_V24_tya :
    after (machine 0xFF 0x00 0x00 0xFD 0x24 0x0300
        [(0x0300, 0x98)]) [] =
      some [0x00, 0x00, 0x00, 0xFD, 0x26, 0x0301, 2] := by
  decide
theorem test_V25_tsx :
    after (machine 0x00 0x00 0x00 0xFD 0x24 0x0300
        [(0x0300, 0xBA)]) [] =
      some [0x00, 0xFD, 0x00, 0xFD, 0xA4, 0x0301, 2] := by
  decide
theorem test_V26_txs_no_flags :
    after (machine 0x00 0x00 0x00 0xFD 0xA4 0x0300
        [(0x0300, 0x9A)]) [] =
      some [0x00, 0x00, 0x00, 0x00, 0xA4, 0x0301, 2] := by
  decide
theorem test_V28_adc_01_carry_in :
    after (machine 0xFF 0x00 0x00 0xFD 0x25 0x0300
        [(0x0300, 0x69), (0x0301, 0x01)]) [] =
      some [0x01, 0x00, 0x00, 0xFD, 0x25, 0x0302, 2] := by
  decide
theorem test_V31_adc_7f_with_c_1 :
    after (machine 0x00 0x00 0x00 0xFD 0x25 0x0300
        [(0x0300, 0x69), (0x0301, 0x7F)]) [] =
      some [0x80, 0x00, 0x00, 0xFD, 0xE4, 0x0302, 2] := by
  decide
theorem test_V33_sbc_00_c_0_borrow_in :
    after (machine 0x00 0x00 0x00 0xFD 0x24 0x0300
        [(0x0300, 0xE9), (0x0301, 0x00)]) [] =
      some [0xFF, 0x00, 0x00, 0xFD, 0xA4, 0x0302, 2] := by
  decide
theorem test_V34_sbc_01_v_set :
    after (machine 0x80 0x00 0x00 0xFD 0x25 0x0300
        [(0x0300, 0xE9), (0x0301, 0x01)]) [] =
      some [0x7F, 0x00, 0x00, 0xFD, 0x65, 0x0302, 2] := by
  decide
theorem test_V38_and_0f :
    after (machine 0xF0 0x00 0x00 0xFD 0x24 0x0300
        [(0x0300, 0x29), (0x0301, 0x0F)]) [] =
      some [0x00, 0x00, 0x00, 0xFD, 0x26, 0x0302, 2] := by
  decide
theorem test_V39_ora_80 :
    after (machine 0x41 0x00 0x00 0xFD 0x24 0x0300
        [(0x0300, 0x09), (0x0301, 0x80)]) [] =
      some [0xC1, 0x00, 0x00, 0xFD, 0xA4, 0x0302, 2] := by
  decide
theorem test_V40_eor_ff :
    after (machine 0xFF 0x00 0x00 0xFD 0x24 0x0300
        [(0x0300, 0x49), (0x0301, 0xFF)]) [] =
      some [0x00, 0x00, 0x00, 0xFD, 0x26, 0x0302, 2] := by
  decide
theorem test_V42_cmp_40 :
    after (machine 0x40 0x00 0x00 0xFD 0x24 0x0300
        [(0x0300, 0xC9), (0x0301, 0x40)]) [] =
      some [0x40, 0x00, 0x00, 0xFD, 0x27, 0x0302, 2] := by
  decide
theorem test_V43_cmp_80_n_from_difference_no_v :
    after (machine 0x00 0x00 0x00 0xFD 0x64 0x0300
        [(0x0300, 0xC9), (0x0301, 0x80)]) [] =
      some [0x00, 0x00, 0x00, 0xFD, 0xE4, 0x0302, 2] := by
  decide
theorem test_V44_cpx_10 :
    after (machine 0x00 0x10 0x00 0xFD 0x24 0x0300
        [(0x0300, 0xE0), (0x0301, 0x10)]) [] =
      some [0x00, 0x10, 0x00, 0xFD, 0x27, 0x0302, 2] := by
  decide
theorem test_V45_cpy_01 :
    after (machine 0x00 0x00 0xFF 0xFD 0x24 0x0300
        [(0x0300, 0xC0), (0x0301, 0x01)]) [] =
      some [0x00, 0x00, 0xFF, 0xFD, 0xA5, 0x0302, 2] := by
  decide
theorem test_V46_bit_10 :
    after (machine 0x01 0x00 0x00 0xFD 0x24 0x0300
        [(0x0300, 0x24), (0x0301, 0x10), (0x0010, 0xC0)]) [] =
      some [0x01, 0x00, 0x00, 0xFD, 0xE6, 0x0302, 3] := by
  decide
theorem test_V47_bit_1234_clears_n_v :
    after (machine 0xFF 0x00 0x00 0xFD 0xE4 0x0300
        [(0x0300, 0x2C), (0x0301, 0x34), (0x0302, 0x12), (0x1234, 0x3F)]) [] =
      some [0xFF, 0x00, 0x00, 0xFD, 0x24, 0x0303, 4] := by
  decide
theorem test_V48_inc_10 :
    after (machine 0x00 0x00 0x00 0xFD 0x24 0x0300
        [(0x0300, 0xE6), (0x0301, 0x10), (0x0010, 0x7F)]) [0x0010] =
      some [0x00, 0x00, 0x00, 0xFD, 0xA4, 0x0302, 5, 0x80] := by
  decide
theorem test_V49_inc_12ff_x_7_cycles_no_penalty :
    after (machine 0x00 0x01 0x00 0xFD 0x24 0x0300
        [(0x0300, 0xFE), (0x0301, 0xFF), (0x0302, 0x12), (0x1300, 0xFF)]) [0x1300] =
      some [0x00, 0x01, 0x00, 0xFD, 0x26, 0x0303, 7, 0x00] := by
  decide
theorem test_V50_dec_2000 :
    after (machine 0x00 0x00 0x00 0xFD 0x24 0x0300
        [(0x0300, 0xCE), (0x0301, 0x00), (0x0302, 0x20), (0x2000, 0x00)]) [0x2000] =
      some [0x00, 0x00, 0x00, 0xFD, 0xA4, 0x0303, 6, 0xFF] := by
  decide
theorem test_V51_inx :
    after (machine 0x00 0xFF 0x00 0xFD 0x24 0x0300
        [(0x0300, 0xE8)]) [] =
      some [0x00, 0x00, 0x00, 0xFD, 0x26, 0x0301, 2] := by
  decide
theorem test_V52_iny :
    after (machine 0x00 0x00 0x7F 0xFD 0x24 0x0300
        [(0x0300, 0xC8)]) [] =
      some [0x00, 0x00, 0x80, 0xFD, 0xA4, 0x0301, 2] := by
  decide
theorem test_V53_dex :
    after (machine 0x00 0x01 0x00 0xFD 0x24 0x0300
        [(0x0300, 0xCA)]) [] =
      some [0x00, 0x00, 0x00, 0xFD, 0x26, 0x0301, 2] := by
  decide
theorem test_V54_dey :
    after (machine 0x00 0x00 0x00 0xFD 0x24 0x0300
        [(0x0300, 0x88)]) [] =
      some [0x00, 0x00, 0xFF, 0xFD, 0xA4, 0x0301, 2] := by
  decide
theorem test_V55_asl_a :
    after (machine 0x81 0x00 0x00 0xFD 0x24 0x0300
        [(0x0300, 0x0A)]) [] =
      some [0x02, 0x00, 0x00, 0xFD, 0x25, 0x0301, 2] := by
  decide
theorem test_V57_lsr_a :
    after (machine 0x01 0x00 0x00 0xFD 0x24 0x0300
        [(0x0300, 0x4A)]) [] =
      some [0x00, 0x00, 0x00, 0xFD, 0x27, 0x0301, 2] := by
  decide
theorem test_V63_lsr_10_x :
    after (machine 0x00 0x02 0x00 0xFD 0x24 0x0300
        [(0x0300, 0x56), (0x0301, 0x10), (0x0012, 0x03)]) [0x0012] =
      some [0x00, 0x02, 0x00, 0xFD, 0x25, 0x0302, 6, 0x01] := by
  decide
theorem test_V59_rol_a :
    after (machine 0x80 0x00 0x00 0xFD 0x24 0x0300
        [(0x0300, 0x2A)]) [] =
      some [0x00, 0x00, 0x00, 0xFD, 0x27, 0x0301, 2] := by
  decide
theorem test_V64_rol_1234 :
    after (machine 0x00 0x00 0x00 0xFD 0x25 0x0300
        [(0x0300, 0x2E), (0x0301, 0x34), (0x0302, 0x12), (0x1234, 0x00)]) [0x1234] =
      some [0x00, 0x00, 0x00, 0xFD, 0x24, 0x0303, 6, 0x01] := by
  decide
theorem test_V60_ror_a :
    after (machine 0x00 0x00 0x00 0xFD 0x25 0x0300
        [(0x0300, 0x6A)]) [] =
      some [0x80, 0x00, 0x00, 0xFD, 0xA4, 0x0301, 2] := by
  decide
theorem test_V65_ror_12ff_x_7_cycles :
    after (machine 0x00 0x01 0x00 0xFD 0x25 0x0300
        [(0x0300, 0x7E), (0x0301, 0xFF), (0x0302, 0x12), (0x1300, 0x02)]) [0x1300] =
      some [0x00, 0x01, 0x00, 0xFD, 0xA4, 0x0303, 7, 0x81] := by
  decide
theorem test_V66_jmp_1234 :
    after (machine 0x00 0x00 0x00 0xFD 0x24 0x0300
        [(0x0300, 0x4C), (0x0301, 0x34), (0x0302, 0x12)]) [] =
      some [0x00, 0x00, 0x00, 0xFD, 0x24, 0x1234, 3] := by
  decide
theorem test_V67_jmp_12ff_pointer_wrap :
    after (machine 0x00 0x00 0x00 0xFD 0x24 0x0300
        [(0x0300, 0x6C), (0x0301, 0xFF), (0x0302, 0x12), (0x1200, 0x40), (0x12FF, 0x80), (0x1300, 0x50)]) [] =
      some [0x00, 0x00, 0x00, 0xFD, 0x24, 0x4080, 5] := by
  decide
theorem test_V69_jsr_0310 :
    after (machine 0x00 0x00 0x00 0xFD 0x24 0x0300
        [(0x0300, 0x20), (0x0301, 0x10), (0x0302, 0x03)]) [0x01FD, 0x01FC] =
      some [0x00, 0x00, 0x00, 0xFB, 0x24, 0x0310, 6, 0x03, 0x02] := by
  decide
theorem test_V70_jsr_0400_with_sp_00_sp_wraps :
    after (machine 0x00 0x00 0x00 0x00 0x24 0x0300
        [(0x0300, 0x20), (0x0301, 0x00), (0x0302, 0x04)]) [0x0100, 0x01FF] =
      some [0x00, 0x00, 0x00, 0xFE, 0x24, 0x0400, 6, 0x03, 0x02] := by
  decide
theorem test_V72_rts_pulled_ffff :
    after (machine 0x00 0x00 0x00 0xFB 0x24 0x0300
        [(0x0300, 0x60), (0x01FC, 0xFF), (0x01FD, 0xFF)]) [] =
      some [0x00, 0x00, 0x00, 0xFD, 0x24, 0x0000, 6] := by
  decide
theorem test_V73_bcc_5_taken :
    after (machine 0x00 0x00 0x00 0xFD 0x24 0x0300
        [(0x0300, 0x90), (0x0301, 0x05)]) [] =
      some [0x00, 0x00, 0x00, 0xFD, 0x24, 0x0307, 3] := by
  decide
theorem test_V74_bcc_5_not_taken :
    after (machine 0x00 0x00 0x00 0xFD 0x25 0x0300
        [(0x0300, 0x90), (0x0301, 0x05)]) [] =
      some [0x00, 0x00, 0x00, 0xFD, 0x25, 0x0302, 2] := by
  decide
theorem test_V75_bcs_2_to_self :
    after (machine 0x00 0x00 0x00 0xFD 0x25 0x0300
        [(0x0300, 0xB0), (0x0301, 0xFE)]) [] =
      some [0x00, 0x00, 0x00, 0xFD, 0x25, 0x0300, 3] := by
  decide
theorem test_V76_beq_10_taken_page_cross :
    after (machine 0x00 0x00 0x00 0xFD 0x26 0x02F0
        [(0x02F0, 0xF0), (0x02F1, 0x10)]) [] =
      some [0x00, 0x00, 0x00, 0xFD, 0x26, 0x0302, 4] := by
  decide
theorem test_V84_beq_at_03fd_01_next_03ff_target_0400_cross :
    after (machine 0x00 0x00 0x00 0xFD 0x26 0x03FD
        [(0x03FD, 0xF0), (0x03FE, 0x01)]) [] =
      some [0x00, 0x00, 0x00, 0xFD, 0x26, 0x0400, 4] := by
  decide
theorem test_V77_bne_5 :
    after (machine 0x00 0x00 0x00 0xFD 0x24 0x0305
        [(0x0305, 0xD0), (0x0306, 0xFB)]) [] =
      some [0x00, 0x00, 0x00, 0xFD, 0x24, 0x0302, 3] := by
  decide
theorem test_V82_bne_0_taken_to_next :
    after (machine 0x00 0x00 0x00 0xFD 0x24 0x0300
        [(0x0300, 0xD0), (0x0301, 0x00)]) [] =
      some [0x00, 0x00, 0x00, 0xFD, 0x24, 0x0302, 3] := by
  decide
theorem test_V78_bmi_2 :
    after (machine 0x00 0x00 0x00 0xFD 0xA4 0x0300
        [(0x0300, 0x30), (0x0301, 0x02)]) [] =
      some [0x00, 0x00, 0x00, 0xFD, 0xA4, 0x0304, 3] := by
  decide
theorem test_V79_bpl_5 :
    after (machine 0x00 0x00 0x00 0xFD 0x24 0x0303
        [(0x0303, 0x10), (0x0304, 0xFB)]) [] =
      some [0x00, 0x00, 0x00, 0xFD, 0x24, 0x0300, 3] := by
  decide
theorem test_V80_bvc_7f :
    after (machine 0x00 0x00 0x00 0xFD 0x24 0x0300
        [(0x0300, 0x50), (0x0301, 0x7F)]) [] =
      some [0x00, 0x00, 0x00, 0xFD, 0x24, 0x0381, 3] := by
  decide
theorem test_V81_bvs_80_page_cross :
    after (machine 0x00 0x00 0x00 0xFD 0x64 0x0300
        [(0x0300, 0x70), (0x0301, 0x80)]) [] =
      some [0x00, 0x00, 0x00, 0xFD, 0x64, 0x0282, 4] := by
  decide
theorem test_V85_pha :
    after (machine 0x42 0x00 0x00 0xFD 0x24 0x0300
        [(0x0300, 0x48)]) [0x01FD] =
      some [0x42, 0x00, 0x00, 0xFC, 0x24, 0x0301, 3, 0x42] := by
  decide
theorem test_V86_pha_at_sp_00 :
    after (machine 0x42 0x00 0x00 0x00 0x24 0x0300
        [(0x0300, 0x48)]) [0x0100] =
      some [0x42, 0x00, 0x00, 0xFF, 0x24, 0x0301, 3, 0x42] := by
  decide
theorem test_V87_pla :
    after (machine 0x00 0x00 0x00 0xFC 0x24 0x0300
        [(0x0300, 0x68), (0x01FD, 0x00)]) [] =
      some [0x00, 0x00, 0x00, 0xFD, 0x26, 0x0301, 4] := by
  decide
theorem test_V88_pla_at_sp_ff :
    after (machine 0x00 0x00 0x00 0xFF 0x24 0x0300
        [(0x0300, 0x68), (0x0100, 0x80)]) [] =
      some [0x80, 0x00, 0x00, 0x00, 0xA4, 0x0301, 4] := by
  decide
theorem test_V89_php :
    after (machine 0x00 0x00 0x00 0xFD 0xA5 0x0300
        [(0x0300, 0x08)]) [0x01FD] =
      some [0x00, 0x00, 0x00, 0xFC, 0xA5, 0x0301, 3, 0xB5] := by
  decide
theorem test_V90_php_after_reset :
    after (machine 0x00 0x00 0x00 0xFD 0x24 0x0300
        [(0x0300, 0x08)]) [0x01FD] =
      some [0x00, 0x00, 0x00, 0xFC, 0x24, 0x0301, 3, 0x34] := by
  decide
theorem test_V91_plp_pulls_ff :
    after (machine 0x00 0x00 0x00 0xFC 0x24 0x0300
        [(0x0300, 0x28), (0x01FD, 0xFF)]) [] =
      some [0x00, 0x00, 0x00, 0xFD, 0xEF, 0x0301, 4] := by
  decide
theorem test_V92_plp_pulls_00 :
    after (machine 0x00 0x00 0x00 0xFC 0x24 0x0300
        [(0x0300, 0x28), (0x01FD, 0x00)]) [] =
      some [0x00, 0x00, 0x00, 0xFD, 0x20, 0x0301, 4] := by
  decide
theorem test_V93_clc :
    after (machine 0x00 0x00 0x00 0xFD 0x25 0x0300
        [(0x0300, 0x18)]) [] =
      some [0x00, 0x00, 0x00, 0xFD, 0x24, 0x0301, 2] := by
  decide
theorem test_V94_sec :
    after (machine 0x00 0x00 0x00 0xFD 0x24 0x0300
        [(0x0300, 0x38)]) [] =
      some [0x00, 0x00, 0x00, 0xFD, 0x25, 0x0301, 2] := by
  decide
theorem test_V95_cli :
    after (machine 0x00 0x00 0x00 0xFD 0x24 0x0300
        [(0x0300, 0x58)]) [] =
      some [0x00, 0x00, 0x00, 0xFD, 0x20, 0x0301, 2] := by
  decide
theorem test_V96_sei :
    after (machine 0x00 0x00 0x00 0xFD 0x20 0x0300
        [(0x0300, 0x78)]) [] =
      some [0x00, 0x00, 0x00, 0xFD, 0x24, 0x0301, 2] := by
  decide
theorem test_V97_cld :
    after (machine 0x00 0x00 0x00 0xFD 0x2C 0x0300
        [(0x0300, 0xD8)]) [] =
      some [0x00, 0x00, 0x00, 0xFD, 0x24, 0x0301, 2] := by
  decide
theorem test_V98_sed :
    after (machine 0x00 0x00 0x00 0xFD 0x24 0x0300
        [(0x0300, 0xF8)]) [] =
      some [0x00, 0x00, 0x00, 0xFD, 0x2C, 0x0301, 2] := by
  decide
theorem test_V99_clv :
    after (machine 0x00 0x00 0x00 0xFD 0x64 0x0300
        [(0x0300, 0xB8)]) [] =
      some [0x00, 0x00, 0x00, 0xFD, 0x24, 0x0301, 2] := by
  decide
theorem test_V100_nop :
    after (machine 0x00 0x00 0x00 0xFD 0x24 0x0300
        [(0x0300, 0xEA)]) [] =
      some [0x00, 0x00, 0x00, 0xFD, 0x24, 0x0301, 2] := by
  decide
theorem test_V101_undoc_04_zp :
    after (machine 0x12 0x00 0x00 0xFD 0x24 0x0300
        [(0x0300, 0x04), (0x0301, 0x10)]) [] =
      some [0x12, 0x00, 0x00, 0xFD, 0x24, 0x0302, 3] := by
  decide
theorem test_V102_undoc_1c_abx_page_cross :
    after (machine 0x00 0x01 0x00 0xFD 0x24 0x0300
        [(0x0300, 0x1C), (0x0301, 0xFF), (0x0302, 0x12)]) [] =
      some [0x00, 0x01, 0x00, 0xFD, 0x24, 0x0303, 5] := by
  decide
theorem test_V103_undoc_02_kil_a_1_byte_2_cycle_no_op :
    after (machine 0x00 0x00 0x00 0xFD 0x24 0x0300
        [(0x0300, 0x02)]) [] =
      some [0x00, 0x00, 0x00, 0xFD, 0x24, 0x0301, 2] := by
  decide
theorem test_V104_undoc_a7_lax_zp_no_load_happens :
    after (machine 0x00 0x00 0x00 0xFD 0x24 0x0300
        [(0x0300, 0xA7), (0x0301, 0x10), (0x0010, 0x99)]) [] =
      some [0x00, 0x00, 0x00, 0xFD, 0x24, 0x0302, 3] := by
  decide
theorem test_V105_undoc_c7_dcp_zp_memory_not_changed :
    after (machine 0x00 0x00 0x00 0xFD 0x24 0x0300
        [(0x0300, 0xC7), (0x0301, 0x10), (0x0010, 0x05)]) [0x0010] =
      some [0x00, 0x00, 0x00, 0xFD, 0x24, 0x0302, 5, 0x05] := by
  decide
theorem test_V106_undoc_eb_imm_not_sbc :
    after (machine 0x10 0x00 0x00 0xFD 0x25 0x0300
        [(0x0300, 0xEB), (0x0301, 0x01)]) [] =
      some [0x10, 0x00, 0x00, 0xFD, 0x25, 0x0302, 2] := by
  decide
theorem test_V107_undoc_b3_lax_izy_page_cross_pointer_read_6_c :
    after (machine 0x00 0x00 0xFF 0xFD 0x24 0x0300
        [(0x0300, 0xB3), (0x0301, 0x20), (0x0020, 0x01), (0x0021, 0x20)]) [] =
      some [0x00, 0x00, 0xFF, 0xFD, 0x24, 0x0302, 6] := by
  decide
theorem test_V108_undoc_80_imm_operand_byte_not_read :
    after (machine 0x00 0x00 0x00 0xFD 0x24 0x0300
        [(0x0300, 0x80), (0x0301, 0x55)]) [] =
      some [0x00, 0x00, 0x00, 0xFD, 0x24, 0x0302, 2] := by
  decide
theorem test_V_BRK_brk :
    after (machine 0x00 0x00 0x00 0xFD 0x20 0x0300
        [(0x0300, 0x00), (0x0301, 0xEA), (0xFFFE, 0x40), (0xFFFF, 0xFA)]) [0x01FD, 0x01FC, 0x01FB] =
      some [0x00, 0x00, 0x00, 0xFA, 0x24, 0xFA40, 7, 0x03, 0x02, 0x30] := by
  decide
theorem test_V_RTI_rti_continuing :
    after (machine 0x00 0x00 0x00 0xFA 0x24 0xFA40
        [(0xFA40, 0x40), (0x01FD, 0x03), (0x01FC, 0x02), (0x01FB, 0x30)]) [] =
      some [0x00, 0x00, 0x00, 0xFD, 0x20, 0x0302, 6] := by
  decide

/-- Decimal mode is not honoured: the ADC of vector V-DEC (R222). -/
theorem test_V_DEC_adc :
    after (machine 0x15 0 0 0xFD 0x2C 0x0300 [(0x0300, 0x69), (0x0301, 0x26)]) [] =
      some [0x3B, 0, 0, 0xFD, 0x2C, 0x0302, 2] := by
  decide

/-- `BRK_MODE = halt` ends the run (R294). -/
theorem test_brk_halt :
    (match step { machine 0 0 0 0xFD 0x24 0x0300 [(0x0300, 0x00)] with
        params := { Config.defaultParams with brkMode := .halt } } with
      | .next _ => false
      | .fault r => r == .brkHalt
      | .refused _ => false) = true := by
  decide

/-- The host's word runs as the first instruction after reset. -/
theorem test_withFetchWord_runs :
    after (State.reset.withFetchWord 16 0x55A9) [] = some [0x55, 0, 0, 0xFD, 0x24, 0x0002, 2] := by
  decide

/-! ### Accesses, by the bus, language-card and disk vectors -/

theorem test_M1_store80 :
    (perform [(0xC001, some 0x00), (0xC018, none), (0xC000, some 0x00), (0xC018, none)]
      idle).1 =
      [0x80, 0x00] := by
  decide
theorem test_M5_reads_set_nothing :
    (perform [(0xC001, none), (0xC018, none), (0xC00D, none), (0xC01F, none)]
      idle).1 =
      [0x00, 0x00, 0x00, 0x00] := by
  decide
theorem test_M6_keyboard :
    (perform [(0xC000, none), (0xC010, none), (0xC000, none), (0xC010, some 0x00), (0xC000, none)]
      { idle with kbd := 0xC1 }).1 =
      [0xC1, 0x00, 0x41, 0x41] := by
  decide
theorem test_M7_wrmain :
    (perform [(0x0400, some 0xAA), (0xC005, some 0x00), (0x0400, some 0xBB), (0xC004, some 0x00), (0x0400, none), (0xC003, some 0x00), (0x0400, none)]
      idle).1 =
      [0xAA, 0xBB] := by
  decide
theorem test_M8_store80_window :
    (perform [(0xC001, some 0x00), (0xC055, some 0x00), (0x0400, some 0x11), (0x0800, some 0x22), (0xC054, some 0x00), (0x0400, none), (0x0800, none)]
      idle).1 =
      [0xFF, 0x22] := by
  decide
theorem test_M10_mainzp :
    (perform [(0xC009, some 0x00), (0x0010, some 0x5A), (0x01F0, some 0x5B), (0xC008, some 0x00), (0x0010, none), (0x01F0, none)]
      idle).1 =
      [0xFF, 0xFF] := by
  decide
theorem test_M11_language_card :
    (perform [(0xC081, none), (0xC081, none), (0xD000, some 0xA5), (0xD000, none), (0xC080, none), (0xD000, none), (0xC088, none), (0xD000, none)]
      idle).1 =
      [0x00, 0x00, 0x00, 0x00, 0xA5, 0x00, 0xFF] := by
  decide
theorem test_M12_one_read :
    (perform [(0xC081, none), (0xD000, some 0xA5), (0xC080, none), (0xD000, none)]
      idle).1 =
      [0x00, 0x00, 0xFF] := by
  decide
theorem test_M13_bank_1 :
    (perform [(0xC089, none), (0xC089, none), (0xD000, some 0x77), (0xE000, some 0x88), (0xC08B, none), (0xD000, none), (0xE000, none), (0xC083, none), (0xD000, none)]
      idle).1 =
      [0x00, 0x00, 0x00, 0x77, 0x88, 0x00, 0xFF] := by
  decide
theorem test_M15_write_disarms :
    (perform [(0xC081, none), (0xC081, some 0x00), (0xC081, none), (0xD000, some 0xA5), (0xC080, none), (0xD000, none)]
      idle).1 =
      [0x00, 0x00, 0x00, 0xFF] := by
  decide
theorem test_M18_single_read_clears :
    (perform [(0xC083, none), (0xC083, none), (0xC083, some 0x00), (0xC083, none), (0xD000, some 0xA5), (0xD000, none)]
      idle).1 =
      [0x00, 0x00, 0x00, 0xFF] := by
  decide
theorem test_M19_bit_2_ignored :
    (perform [(0xC087, none), (0xC087, none), (0xC011, none), (0xC012, none), (0xC08F, none), (0xC011, none), (0xC012, none), (0xC082, none), (0xC012, none)]
      idle).1 =
      [0x00, 0x00, 0x80, 0x80, 0x00, 0x00, 0x80, 0x00, 0x00] := by
  decide
theorem test_M21_unlisted :
    (perform [(0xC020, none), (0xC030, none), (0xC058, none), (0xC060, none), (0xC064, none), (0xC090, none), (0xC0FF, none), (0xC030, some 0x00)]
      idle).1 =
      [0x00, 0x00, 0x00, 0x00, 0x00, 0x00, 0x00] := by
  decide

/-- Vector M20: slot ROM, firmware and the boot PROM. -/
theorem test_M20_rom :
    (perform
        [(0xC600, none), (0xC300, none), (0xC100, none), (0xC800, none), (0xC007, some 0), (0xC600, none),
          (0xC100, none)]
        { idle with
          params :=
            { Config.defaultParams with
              bootProm := [(0, 0xA2)]
              sysRom := [(0x100, 0x33), (0x300, 0x22), (0x600, 0x11), (0x800, 0x44)] } }).1 =
      [0xA2, 0x22, 0x00, 0x44, 0x11, 0x33] := by
  decide

/-- Vector K1: a rotating stepper moves in by four tracks. -/
theorem test_K1_stepper :
    ((perform [(0xC0E1, none), (0xC0E3, none), (0xC0E5, none), (0xC0E7, none), (0xC0E1, none)] withDisk).2.disk.track,
      (perform [(0xC0E3, none), (0xC0E1, none), (0xC0E7, none)] withDisk).2.disk.track) = (4, 0) := by
  decide

/-- Vector K3: two phases away is no move. -/
theorem test_K3_no_move :
    ((perform [(0xC0E5, none)] withDisk).2.disk.phase, (perform [(0xC0E5, none)] withDisk).2.disk.track) = (2, 0) := by
  decide

/-- Vector K6: the first pulse returns the old latch, then the gap bytes come. -/
theorem test_K6_pulses :
    (perform [(0xC0E9, none), (0xC0EC, none), (0xC0EC, none), (0xC0EC, none), (0xC0EC, none)] withDisk).1 =
      [0x00, 0x00, 0xFF, 0xFF, 0xFF] := by
  decide

/-- Vector K8: Q6 makes one pulse load 0. -/
theorem test_K8_q6 :
    (perform [(0xC0E9, none), (0xC0EC, none), (0xC0ED, none), (0xC0EC, none), (0xC0EC, none), (0xC0EC, none)] withDisk).1 =
      [0x00, 0x00, 0x00, 0xFF, 0x00, 0xFF] := by
  decide

/-- Vector K11: which addresses drive the latch. -/
theorem test_K11_latch :
    (perform
        [(0xC0E9, none), (0xC0EC, none), (0xC0EC, none), (0xC0E8, none), (0xC0EA, none), (0xC0E2, none),
          (0xC0EE, none), (0xC0E0, none), (0xC0ED, none)]
        withDisk).1 =
      [0x00, 0x00, 0xFF, 0xFF, 0xFF, 0xFF, 0x00, 0x00, 0x00] := by
  decide

/-! ### The encoder and the picture -/

theorem test_G1_4and4 :
    [0xFE, 0x11, 0x0F, 0xE0].map encode44 = [(0xFF, 0xFE), (0xAA, 0xBB), (0xAF, 0xAF), (0xFA, 0xEA)] := by
  decide

/-- Vector G3: the address field and the first data bytes. -/
theorem test_G3_sector :
    (List.range 14).map (fun k => sectorByte 254 17 15 (fun i => BitVec.ofNat 8 i) (48 + k)) =
        [0xD5, 0xAA, 0x96, 0xFF, 0xFE, 0xAA, 0xBB, 0xAF, 0xAF, 0xFA, 0xEA, 0xDE, 0xAA, 0xEB] ∧
      (List.range 4).map (fun k => sectorByte 254 17 15 (fun i => BitVec.ofNat 8 i) (70 + k)) =
        [0x9D, 0xE6, 0xFF, 0xE6] := by
  decide

/-- Vector G4: the spare bits of q[84] are 0. -/
theorem test_G4_spare_bits :
    (List.range 6).map (fun k => sectorByte 254 17 15 (fun _ => 0xFF) (153 + k)) =
      [0x96, 0xED, 0x96, 0xED, 0x96, 0x96] := by
  decide

/-- Vector G7: the interleave. -/
theorem test_G7_interleave :
    [sectorOffset 3 0 0, sectorOffset 3 1 0, sectorOffset 3 2 0, sectorOffset 3 15 0] =
      [0x3000, 0x3700, 0x3E00, 0x3F00] := by
  decide

/-- The colour of output column `x` of row `y` for RAM and switches as given. -/
def colour (main aux : List (Nat × Byte)) (sw : Switches) (y x : Nat) : Nat :=
  let s :=
    { idle with
      main := main.foldl (fun m c => Memory.write m c.1 c.2) []
      aux := aux.foldl (fun m c => Memory.write m c.1 c.2) []
      sw := sw }
  (paletteIndex (renderSettings s) (gpuMemory s) y x).toNat

/-- R473 (b). -/
theorem test_R473_lores :
    [colour [(0x400, 0xC1)] [] Switches.atReset 7 13, colour [(0x400, 0xC1)] [] Switches.atReset 8 0] = [1, 12] := by
  decide

/-- R473 (c): purple, blue, white, green, orange. -/
theorem test_R473_hires :
    [([(0x2000, 0x01), (0x2001, 0x00)], 0), ([(0x2000, 0x81), (0x2001, 0x00)], 1), ([(0x2000, 0x03), (0x2001, 0x00)], 3),
        ([(0x2000, 0x02), (0x2001, 0x00)], 2), ([(0x2000, 0x82), (0x2001, 0x00)], 3)].map
      (fun c => colour c.1 [] { Switches.atReset with hires := true } 0 c.2) =
      [3, 6, 15, 12, 9] := by
  decide

/-- R473 (a) and the row vectors of section 2.10. -/
theorem test_row_addresses :
    [rowOffset 22, rowOffset 7, rowOffset 8, rowOffset 23 + 39] = [0x350, 0x380, 0x28, 0x3F7] := by
  decide

/-- `start_addr` for the eight switch settings of section 2.10. -/
theorem test_start_addresses :
    [startAddr Switches.atReset, startAddr { Switches.atReset with text := true, page2 := true },
        startAddr { Switches.atReset with text := true, page2 := true, store80 := true },
        startAddr { Switches.atReset with hires := true, page2 := true },
        startAddr { Switches.atReset with page2 := true }] =
      [0x400, 0x800, 0x400, 0x4000, 0x400] := by
  decide

/-! ### Witnesses: states and operands that meet the hypotheses of each obligation -/

/-- A machine about to run the instruction with the bytes given. -/
def about (b0 b1 b2 : Byte) : State :=
  machine 0x15 0x01 0x02 0xFD 0x2C 0x0300 [(0x0300, b0), (0x0301, b1), (0x0302, b2)]

/-- The same with an ILLEGAL_TABLE entry of the machine's own. -/
def tabled (op : Byte) (e : IllegalEntry) (b0 b1 b2 : Byte) : State :=
  let s := about b0 b1 b2
  { s with params := { s.params with illegalTable := [(op, e)] } }

/-- Does the outcome give a next state that passes? -/
def passes (r : Result) (ok : State → Bool) : Bool :=
  match r with
  | .next t => ok t
  | .fault _ => false
  | .refused _ => false

theorem passes_next {r : Result} {ok : State → Bool} (h : passes r ok = true) : ∃ t, r = .next t ∧ ok t = true := by
  cases r with
  | next t => exact ⟨t, rfl, h⟩
  | fault _ => cases h
  | refused _ => cases h

theorem witness_EncodeOfDecode : decode [0xA5, 0x10, 0xFF] = .ok (.ldaZp 0x10, [0xFF]) := by rfl

theorem witness_StepRunsTheDecodedInstruction :
    decode (codeBytes (beforeTick (about 0xA5 0x10 0x00))) = .ok (.ldaZp 0x10, [0x00]) ∧
      (List.range 3).all (fun k => !isIo ((beforeTick (about 0xA5 0x10 0x00)).cpu.pc + BitVec.ofNat 16 k)) = true := by
  exact ⟨rfl, by decide⟩

theorem witness_EffectiveAddresses :
    isIo 0xBFFF = false ∧ isIo 0xC000 = true ∧ isIo 0xC0FF = true ∧ isIo 0xC100 = false ∧
      (resolve .absoluteX 0xFFFF (about 0 0 0)).paged = true ∧ (resolve .absoluteY 0x12FD (about 0 0 0)).paged = false := by
  decide

theorem witness_StepCompletesOrHalts :
    (let s := { about 0x00 0 0 with params := { Config.defaultParams with brkMode := .halt } }
    (s.params.brkMode, (memRead (beforeTick s).cpu.pc (beforeTick s)).1)) = (.halt, 0x00) ∧
      (let s := { about 0xEA 0 0 with params := { Config.defaultParams with brkMode := .halt } }
      (s.params.brkMode, (memRead (beforeTick s).cpu.pc (beforeTick s)).1)) = (.halt, 0xEA) ∧
      (about 0x00 0 0).params.brkMode = .vector := by
  decide

theorem witness_CycleBounds :
    passes (exec (.ldaAbx 0x12FF) (about 0 0 0)) (fun t => t.cpu.cycleCount == 5) = true ∧
      passes (exec (.bne 0xF0) (about 0 0 0)) (fun t => t.cpu.cycleCount == 4) = true := by
  decide

theorem witness_InterruptLinesDoNothing :
    passes (step (withLines true false (about 0xEA 0 0))) (fun t => t.cpu.irq && !t.cpu.nmi) = true ∧
      passes (step (about 0xEA 0 0)) (fun t => !t.cpu.irq && !t.cpu.nmi) = true := by
  decide

theorem default_params_wellFormed : Config.defaultParams.wellFormed = true := by
  have h1 : Config.defaultParams.palette.length = 16 := List.length_replicate ..
  have h2 : Config.defaultParams.dhrTo.length = 256 := List.length_replicate ..
  have h3 : Config.defaultParams.dhrFrom.length = 256 := (List.length_map ..).trans (List.length_range ..)
  unfold Params.wellFormed
  rw [h1, h2, h3]
  rfl

theorem witness_StepKeepsInv : (about 0xEA 0 0).Inv ∧ ∃ t, step (about 0xEA 0 0) = .next t ∧ (t.cpu.pc == 0x0301) = true :=
  ⟨⟨by decide, by decide, by decide, (fun _ h => by cases h), (fun _ h => by cases h), by decide, default_params_wellFormed⟩,
    passes_next (by decide)⟩

theorem witness_ResetInv : Config.defaultParams.wellFormed = true := default_params_wellFormed

/-- No list of forms is empty. -/
theorem witness_forms :
    [Forms.lda 0 0, Forms.ldx 0 0, Forms.ldy 0 0, Forms.sta 0 0, Forms.stx 0 0, Forms.sty 0 0, Forms.adc 0 0,
        Forms.sbc 0 0, Forms.and 0 0, Forms.ora 0 0, Forms.eor 0 0, Forms.cmp 0 0, Forms.cpx 0 0, Forms.cpy 0 0,
        Forms.bit 0 0, Forms.inc 0 0, Forms.dec 0 0, Forms.asl 0 0, Forms.lsr 0 0, Forms.rol 0 0, Forms.ror 0 0].map
          (fun l => l.length) =
      [7, 4, 4, 7, 3, 3, 7, 7, 7, 7, 7, 7, 2, 2, 2, 4, 4, 4, 4, 4, 4] := by
  decide

theorem witness_DecimalModeIgnored :
    passes (exec (.adcImm 0x26) (about 0 0 0)) (fun t => t.cpu.a == 0x3B) = true ∧ (about 0 0 0).cpu.a = 0x15 ∧
      getFlag (about 0 0 0).cpu.p .C = false ∧ getFlag (about 0 0 0).cpu.p .D = true := by
  decide

theorem witness_OverflowIsSigned :
    passes (exec (.adcZp 0x10) (about 0 0 0)) (fun _ => true) = true ∧
      passes (exec (.sbcZp 0x10) (about 0 0 0)) (fun _ => true) = true := by
  decide

theorem SameStack.refl (s : State) : SameStack s s := ⟨fun _ _ => rfl, rfl, rfl⟩

theorem witness_CallThenReturn :
    ∃ t, exec (.jsr 0x0310) (about 0 0 0) = .next t ∧ (t.cpu.pc == 0x0310) = true ∧ SameStack t t := by
  obtain ⟨t, h, k⟩ := passes_next (r := exec (.jsr 0x0310) (about 0 0 0)) (ok := fun t => t.cpu.pc == 0x0310) (by decide)
  exact ⟨t, h, k, SameStack.refl t⟩

theorem witness_PushThenPull :
    (∃ t, exec .pha (about 0 0 0) = .next t ∧ (t.cpu.sp == 0xFC) = true ∧ SameStack t t) ∧
      (∃ t, exec .php (about 0 0 0) = .next t ∧ (t.cpu.sp == 0xFC) = true ∧ SameStack t t) ∧
      (about 0 0 0).cpu.p &&& 0x30 = 0x20 := by
  obtain ⟨t, h, k⟩ := passes_next (r := exec .pha (about 0 0 0)) (ok := fun t => t.cpu.sp == 0xFC) (by decide)
  obtain ⟨u, i, j⟩ := passes_next (r := exec .php (about 0 0 0)) (ok := fun t => t.cpu.sp == 0xFC) (by decide)
  exact ⟨⟨t, h, k, SameStack.refl t⟩, ⟨u, i, j, SameStack.refl u⟩, by decide⟩

theorem witness_BrkEntry : (about 0x00 0xEA 0).params.brkMode = .vector := by decide

theorem witness_BrkThenRti :
    (about 0x00 0xEA 0).params.brkMode = .vector ∧ (about 0x00 0xEA 0).cpu.p &&& 0x30 = 0x20 ∧
      ∃ t, exec (.brk 0xEA) (about 0x00 0xEA 0) = .next t ∧ (t.cpu.sp == 0xFA) = true ∧ SameStack t t := by
  obtain ⟨t, h, k⟩ := passes_next (r := exec (.brk 0xEA) (about 0x00 0xEA 0)) (ok := fun t => t.cpu.sp == 0xFA) (by decide)
  exact ⟨by decide, by decide, t, h, k, SameStack.refl t⟩

theorem witness_UndocumentedResult :
    (⟨0xA7, ⟨.laxA7 0x10, .zeroPage, ⟨2, 3, 0⟩, 0x10⟩⟩ : UndocumentedShape) ∈ Forms.undocumented 0x10 0x1234 ∧
      Mode.zeroPage ∉ [Mode.indexedIndirect, .indirectIndexed] ∧
      operandReads .absoluteX ≤ operandBytes .absolute ∧ ¬operandReads .absoluteX ≤ operandBytes .implied ∧
      (let s := tabled 0xA7 ⟨.indirect, ⟨3, 5, 0⟩⟩ 0xA7 0x00 0x04
      isIo (s.cpu.pc + 1) = false ∧ isIo (s.cpu.pc + 2) = false ∧
        (completeOperand .zeroPage .indirect 0x00 s).1 = 0x0400 ∧ isIo 0x0400 = false) ∧
      (opRow (memRead 0x0300 (about 0x02 0 0)).1).documented = false := by
  decide

/-- R305: `1C FF 12` under AbsoluteX, and the same bytes under any undocumented opcode whose ILLEGAL_TABLE entry is
that of $1C: `al`, PC, cycles and the last address read (R302). -/
theorem test_R305_absoluteX_by_table :
    ([0x1C, 0x02, 0x04, 0x0B] : List Byte).map
        (fun op => passes (step (tabled op ⟨.absoluteX, ⟨3, 4, 1⟩⟩ op 0xFF 0x12)) (fun t =>
          t.cpu.al == 0x1300 && t.cpu.pc == 0x0303 && t.cpu.cycleCount == 5 && t.bus.addr == 0x0302)) =
      [true, true, true, true] := by
  decide

/-- R305: `04 10` under ZeroPage and `02` under Implied, and other opcodes whose entries are theirs. -/
theorem test_R305_short_by_table :
    ([0x04, 0x1C, 0x02, 0x0B] : List Byte).map
        (fun op => passes (step (tabled op ⟨.zeroPage, ⟨2, 3, 0⟩⟩ op 0x10 0x12)) (fun t =>
          t.cpu.al == 0x0010 && t.cpu.pc == 0x0302 && t.cpu.cycleCount == 3 && t.bus.addr == 0x0301)) =
      [true, true, true, true] ∧
    ([0x02, 0x04, 0x1C] : List Byte).map
        (fun op => passes (step (tabled op ⟨.implied, ⟨1, 2, 0⟩⟩ op 0x10 0x12)) (fun t =>
          t.cpu.pc == 0x0301 && t.cpu.cycleCount == 2 && t.bus.addr == 0x0300)) =
      [true, true, true] := by
  decide

theorem witness_FrameOfReads :
    passes (exec (.ldaAbx 0xBFFE) (about 0 0 0)) (fun _ => true) = true ∧
      isIo (prepare .absoluteX ⟨3, 4, 1⟩ 0xBFFE (about 0 0 0)).cpu.al = false ∧
      passes (exec (.ldaAbx 0xBFFF) (about 0 0 0)) (fun _ => true) = true ∧
      isIo (prepare .absoluteX ⟨3, 4, 1⟩ 0xBFFF (about 0 0 0)).cpu.al = true := by
  decide

theorem witness_FrameOfStores :
    passes (exec (.staAbs 0xBFFF) (about 0 0 0)) (fun _ => true) = true ∧
      storedAt (prepare .absolute ⟨3, 4, 0⟩ 0xBFFF (about 0 0 0)) 0xBFFF = some (.main, 0xBFFF) ∧
      storedAt (prepare .absolute ⟨3, 4, 0⟩ 0xC000 (about 0 0 0)) 0xC000 = none ∧
      storedAt (prepare .absolute ⟨3, 4, 0⟩ 0xD000 (about 0 0 0)) 0xD000 = none := by
  decide

theorem witness_FrameOfModify :
    passes (exec (.incAbs 0x0400) (about 0 0 0)) (fun t => ramRead t .main 0x0400 == 0x00) = true := by
  decide

theorem witness_FrameOfRegisterInstructions : passes (exec .tax (about 0 0 0)) (fun t => t.cpu.x == 0x15) = true := by
  decide

theorem witness_FrameOfControl :
    passes (exec (.jmpInd 0xBFFF) (about 0 0 0)) (fun _ => true) = true ∧ isIo 0xBFFF = false ∧
      passes (exec (.bne 0x02) (about 0 0 0)) (fun t => t.cpu.pc == 0x0304) = true := by
  decide

theorem witness_FrameOfStack :
    passes (exec .plp (about 0 0 0)) (fun t => t.cpu.sp == 0xFE) = true ∧
      passes (exec (.brk 0xEA) (about 0x00 0xEA 0)) (fun t => t.cpu.pc == 0x0000) = true := by
  decide

/-- Every range of the address map at its ends: where a read goes and where a write goes. -/
theorem witness_AddressMap :
    (([0x0000, 0x01FF, 0x0200, 0xBFFF, 0xC100, 0xC2FF, 0xC300, 0xC3FF, 0xC400, 0xC5FF, 0xC600, 0xC6FF, 0xC700, 0xC7FF,
        0xC800, 0xCFFF, 0xD000, 0xDFFF, 0xE000, 0xFFFF] : List Word).map fun a => (readPlace idle.sw a.toNat, storedAt idle a)) =
      [(.ram .main 0, some (.main, 0)), (.ram .main 0x1FF, some (.main, 0x1FF)), (.ram .main 0x200, some (.main, 0x200)),
        (.ram .main 0xBFFF, some (.main, 0xBFFF)), (.nothing, none), (.nothing, none), (.sysRom 0x300, none),
        (.sysRom 0x3FF, none), (.nothing, none), (.nothing, none), (.bootProm 0, none), (.bootProm 0xFF, none),
        (.nothing, none), (.nothing, none), (.sysRom 0x800, none), (.sysRom 0xFFF, none), (.sysRom 0x1000, none),
        (.sysRom 0x1FFF, none), (.sysRom 0x2000, none), (.sysRom 0x3FFF, none)] := by
  decide

/-- The STORE80 windows at their ends. -/
theorem witness_AddressMap_windows :
    ([0x03FF, 0x0400, 0x07FF, 0x0800, 0x1FFF, 0x2000, 0x3FFF, 0x4000].map
        (inVideoWindow { Switches.atReset with store80 := true, hires := true })) =
      [false, true, true, false, false, true, true, false] := by
  decide

theorem witness_ReadAfterWrite :
    writePlace idle.sw 0x0400 = .ram .main 0x0400 ∧ readPlace idle.sw 0x0400 = .ram .main 0x0400 ∧
      readPlace idle.sw 0x0401 ≠ .ram .main 0x0400 ∧ isIo 0x0400 = false ∧ isIo 0x0401 = false ∧ isIo 0xC100 = false ∧
      isIo 0xCFFF = false := by
  decide

theorem witness_StatusReads :
    idle.host.draws = [] ∧
      ([0x11, 0x1F, 0x20, 0x4F, 0x58, 0x5D, 0x60, 0x64, 0x7E, 0x90, 0xDF, 0xF0, 0xFF].map fun n => (softSwitchRead n idle).1) =
        List.replicate 13 0x00 := by
  decide

theorem witness_SwitchAccesses :
    (softSwitchWrite 0x01 idle).sw.store80 = true ∧ (softSwitchWrite 0x0F idle).sw.altChar = true ∧
      (softSwitchRead 0x01 idle).2.sw = idle.sw ∧ (softSwitchRead 0x0F idle).2.sw = idle.sw ∧
      (memRead 0xC051 idle).2.sw.text = true ∧ (memWrite 0xC057 0x00 idle).sw.hires = true ∧
      (perform [(0xC05E, none), (0xC07F, some 0x00), (0xC07F, none), (0xC05F, some 0xFF), (0xC07F, none)] idle).1 =
        [0x00, 0x80, 0x00] := by
  decide

theorem witness_TwoReadHandshake :
    idle.sw.preWrite = false ∧ (1 < 16 ∧ 15 < 16 ∧ 1 % 2 = 1 ∧ 15 % 2 = 1) ∧
      (perform [(0xC081, none), (0xC08F, none)] idle).2.sw.lcWrite = true := by
  decide

theorem witness_LanguageCardTable :
    (languageCard .read 0 idle.sw).lcRam = true ∧ (languageCard .read 15 idle.sw).lcBnk2 = false := by
  decide

theorem witness_HostInputs :
    idle.host.draws = [] ∧
      (let s := { idle with host := { idle.host with draws := [true, false] } }
      s.host.draws = [true, false] ∧ (perform [(0xC063, none), (0xC019, none), (0xC061, none)] s).1 = [0x80, 0x00, 0x00]) := by
  decide

theorem witness_HostEventResult :
    idle.kbd.getLsbD 7 = false ∧ { idle with kbd := 0xC1 }.kbd.getLsbD 7 = true ∧ idle.host.controlHeld = false ∧
      (hostEvent (.controlKey true) idle).host.controlHeld = true ∧ DiskImage.wf ⟨143360, []⟩ = true ∧
      (⟨143361, []⟩ : DiskImage).size ≠ 143360 := by
  decide

theorem witness_DiskSwitches :
    (perform [(0xC0E3, none)] withDisk).2.disk.track = 1 ∧
      (memWrite 0xC0E3 0xFF { withDisk with disk := { withDisk.disk with track := 34 } }).disk.track = 34 ∧
      (memWrite 0xC0E7 0x00 withDisk).disk.track = 0 := by
  decide

theorem witness_ReadPulse :
    (if withDisk.disk.drive2 then withDisk.disk.disk2 else withDisk.disk.disk1) = some ⟨143360, [(0, 0x01)]⟩ ∧
      withDisk.disk.q6 = false ∧ withDisk.disk.q7 = false ∧ (memRead 0xC0E9 withDisk).2.disk.motorOn = true ∧
      (if idle.disk.drive2 then idle.disk.disk2 else idle.disk.disk1) = none := by
  decide

/-- The round trip at the ends of its ranges: track 34, sector 15, byte 255, image byte 143359. -/
theorem witness_GcrRoundTrip : sectorOffset 34 15 255 = 143359 ∧ 34 < 35 ∧ 15 < 16 ∧ 255 < 256 ∧ 143359 < 143360 := by
  decide

theorem witness_TrackBytesHaveBit7 (img : DiskImage) : trackByte 254 img 34 6655 ∈ trackStream 254 img 34 := by
  exact List.mem_map.2 ⟨6655, List.mem_range.2 (by decide), rfl⟩

theorem witness_ResetOfDevices :
    [(0xBFFF : Word), 0xC100, 0xC300, 0xC3FF, 0xC600, 0xC6FF, 0xC7FF, 0xD000].map
        (fun a => (decide (a.toNat ≤ 0xBFFF), decide (0xC100 ≤ a.toNat ∧ a.toNat ≤ 0xC7FF), decide (0xD000 ≤ a.toNat))) =
      [(true, false, false)] ++ List.replicate 6 (false, true, false) ++ [(false, false, true)] := by
  decide

/-- The sequencer at its four boundary counts. -/
theorem witness_FrameSequencer :
    (let s := { idle with seq := ⟨4500, true⟩, mirrors := { idle.mirrors with vblank := true } }
    [(afterTick 49 s).mirrors.vblank, (afterTick 50 s).mirrors.vblank, (afterTick 12529 s).mirrors.vblank,
      (afterTick 12530 s).mirrors.vblank]) =
      [true, false, false, true] ∧
      idle.seq.running = true ∧ State.reset.seq.running = false ∧ frameEnds 12529 { idle with seq := ⟨4500, true⟩ } = false ∧
      frameEnds 12530 { idle with seq := ⟨4500, true⟩ } = true := by
  decide

theorem witness_PictureDependsOnDisplayPages :
    Memory.write [] 0x0C00 0x55 ≠ [] ∧
      ∀ a, (0x0400 ≤ a ∧ a ≤ 0x0BFF) ∨ (0x2000 ≤ a ∧ a ≤ 0x5FFF) →
        (Memory.write [] 0x0C00 0x55).read a = State.reset.main.read a :=
  ⟨by decide, fun a h => Memory.read_write_other [] (by omega) 0x55⟩

theorem witness_LoresPicture :
    23 < 24 ∧ 39 < 40 ∧ 15 < 16 ∧ 13 < 14 ∧ displayMode (gpuMemory idle) 23 = .lores40 := by
  decide

end Sys2Proof.Tests
end

section
/-! SUPPORT. What a change of the registers leaves alone (spec/10_state.md R29 to R32), operation by operation. -/

namespace Sys2Proof.Machine

/-- The register change `g` leaves the registers and flags named and the interrupt lines alone. -/
structure Keeps (regs : List Reg) (flags : List Flag) (g : Cpu → Cpu) : Prop where
  reg : ∀ k, ∀ r ∈ regs, r.get (g k) = r.get k
  flag : ∀ k, ∀ f ∈ flags, getFlag (g k).p f = getFlag k.p f
  lines : ∀ k, (g k).irq = k.irq ∧ (g k).nmi = k.nmi

theorem Keeps.mono {regs regs' : List Reg} {flags flags' : List Flag} {g : Cpu → Cpu} (h : Keeps regs flags g)
    (hr : regs' ⊆ regs) (hf : flags' ⊆ flags) : Keeps regs' flags' g :=
  ⟨fun k r m => h.reg k r (hr m), fun k f m => h.flag k f (hf m), h.lines⟩

/-- Every register and flag an instruction can name stays: PC, `al` and the cycle count may change. -/
theorem Keeps.of_eq {regs : List Reg} {flags : List Flag} {g : Cpu → Cpu}
    (h : ∀ k, (g k).a = k.a ∧ (g k).x = k.x ∧ (g k).y = k.y ∧ (g k).sp = k.sp ∧ (g k).p = k.p ∧
      (g k).irq = k.irq ∧ (g k).nmi = k.nmi) : Keeps regs flags g where
  reg k r _ := by
    obtain ⟨ha, hx, hy, hsp, -⟩ := h k
    cases r with
    | A => exact ha
    | X => exact hx
    | Y => exact hy
    | SP => exact hsp
  flag k f _ := by
    obtain ⟨-, -, -, -, hp, -⟩ := h k
    rw [hp]
  lines k := by
    obtain ⟨-, -, -, -, -, hi, hn⟩ := h k
    exact ⟨hi, hn⟩

/-! ### Loads and transfers -/

theorem loadA_keeps (v : Cpu → Byte) : Keeps [.X, .Y, .SP] [.V, .U, .B, .D, .I, .C] (fun c => c.loadA (v c)) :=
  ⟨by simp [Cpu.loadA, Reg.get], by simp [Cpu.loadA], fun _ => ⟨rfl, rfl⟩⟩

theorem loadX_keeps (v : Cpu → Byte) : Keeps [.A, .Y, .SP] [.V, .U, .B, .D, .I, .C] (fun c => c.loadX (v c)) :=
  ⟨by simp [Cpu.loadX, Reg.get], by simp [Cpu.loadX], fun _ => ⟨rfl, rfl⟩⟩

theorem loadY_keeps (v : Cpu → Byte) : Keeps [.A, .X, .SP] [.V, .U, .B, .D, .I, .C] (fun c => c.loadY (v c)) :=
  ⟨by simp [Cpu.loadY, Reg.get], by simp [Cpu.loadY], fun _ => ⟨rfl, rfl⟩⟩

theorem setX_keeps (v : Cpu → Byte) : Keeps [.A, .Y, .SP] [.V, .U, .B, .D, .I, .C] (fun c => c.setX (v c)) :=
  loadX_keeps v

theorem setY_keeps (v : Cpu → Byte) : Keeps [.A, .X, .SP] [.V, .U, .B, .D, .I, .C] (fun c => c.setY (v c)) :=
  loadY_keeps v

theorem copyXToSp_keeps : Keeps [.A, .X, .Y] allFlags (fun c => { c with sp := c.x }) :=
  ⟨by simp [Reg.get], fun _ _ _ => rfl, fun _ => ⟨rfl, rfl⟩⟩

/-! ### Arithmetic and logic -/

theorem adc_keeps (m : Byte) : Keeps [.X, .Y, .SP] [.U, .B, .D, .I] (Cpu.adc m) :=
  ⟨by simp [Cpu.adc, Reg.get], by simp [Cpu.adc, adcResult], fun _ => ⟨rfl, rfl⟩⟩

theorem sbc_keeps (m : Byte) : Keeps [.X, .Y, .SP] [.U, .B, .D, .I] (Cpu.sbc m) :=
  ⟨by simp [Cpu.sbc, Reg.get], by simp [Cpu.sbc, sbcResult], fun _ => ⟨rfl, rfl⟩⟩

theorem and_keeps (m : Byte) : Keeps [.X, .Y, .SP] [.V, .U, .B, .D, .I, .C] (Cpu.and m) :=
  loadA_keeps fun c => c.a &&& m

theorem ora_keeps (m : Byte) : Keeps [.X, .Y, .SP] [.V, .U, .B, .D, .I, .C] (Cpu.ora m) :=
  loadA_keeps fun c => c.a ||| m

theorem eor_keeps (m : Byte) : Keeps [.X, .Y, .SP] [.V, .U, .B, .D, .I, .C] (Cpu.eor m) :=
  loadA_keeps fun c => c.a ^^^ m

/-- A compare of any register: P alone changes. -/
theorem compare_keeps (r : Cpu → Byte) (m : Byte) :
    Keeps [.A, .X, .Y, .SP] [.V, .U, .B, .D, .I] (fun c => { c with p := compareFlags (r c) m c.p }) :=
  ⟨by simp [Reg.get], by simp [compareFlags], fun _ => ⟨rfl, rfl⟩⟩

theorem cmp_keeps (m : Byte) : Keeps [.A, .X, .Y, .SP] [.V, .U, .B, .D, .I] (Cpu.cmp m) := compare_keeps Cpu.a m

theorem cpx_keeps (m : Byte) : Keeps [.A, .X, .Y, .SP] [.V, .U, .B, .D, .I] (Cpu.cpx m) := compare_keeps Cpu.x m

theorem cpy_keeps (m : Byte) : Keeps [.A, .X, .Y, .SP] [.V, .U, .B, .D, .I] (Cpu.cpy m) := compare_keeps Cpu.y m

theorem bit_keeps (m : Byte) : Keeps [.A, .X, .Y, .SP] [.U, .B, .D, .I, .C] (Cpu.bit m) :=
  ⟨by simp [Cpu.bit, Reg.get], by simp [Cpu.bit, bitFlags], fun _ => ⟨rfl, rfl⟩⟩

/-! ### Shifts, increments and flag instructions -/

/-- A computation of a result byte and P leaves the flags named alone. -/
def ResultKeeps (flags : List Flag) (f : Byte → Byte → Byte × Byte) : Prop :=
  ∀ v p, ∀ g ∈ flags, getFlag (f v p).2 g = getFlag p g

theorem asl_resultKeeps : ResultKeeps [.V, .U, .B, .D, .I] aslResult := by simp [ResultKeeps, aslResult]

theorem lsr_resultKeeps : ResultKeeps [.V, .U, .B, .D, .I] lsrResult := by simp [ResultKeeps, lsrResult]

theorem rol_resultKeeps : ResultKeeps [.V, .U, .B, .D, .I] rolResult := by simp [ResultKeeps, rolResult]

theorem ror_resultKeeps : ResultKeeps [.V, .U, .B, .D, .I] rorResult := by simp [ResultKeeps, rorResult]

theorem inc_resultKeeps : ResultKeeps [.V, .U, .B, .D, .I, .C] incResult := by simp [ResultKeeps, incResult]

theorem dec_resultKeeps : ResultKeeps [.V, .U, .B, .D, .I, .C] decResult := by simp [ResultKeeps, decResult]

/-- A computation applied to A (R250). -/
theorem accumulator_keeps {flags : List Flag} {f : Byte → Byte → Byte × Byte} (h : ResultKeeps flags f) :
    Keeps [.X, .Y, .SP] flags (fun c => { c with a := (f c.a c.p).1, p := (f c.a c.p).2 }) :=
  ⟨by simp [Reg.get], fun k g m => h k.a k.p g m, fun _ => ⟨rfl, rfl⟩⟩

/-- A flag instruction leaves every other flag alone. -/
theorem putFlag_keeps {regs : List Reg} {flags : List Flag} {f : Flag} (h : f ∉ flags) (b : Bool) :
    Keeps regs flags (Cpu.putFlag f b) where
  reg k r _ := by cases r <;> rfl
  flag k g m := by
    have hne : f ≠ g := fun e => h (e ▸ m)
    simp [Cpu.putFlag, hne]
  lines _ := ⟨rfl, rfl⟩

/-! ### PC and the cycle count -/

section
variable {regs : List Reg} {flags : List Flag}

theorem setPc_keeps (v : Cpu → Word) : Keeps regs flags (fun c => { c with pc := v c }) :=
  .of_eq fun _ => ⟨rfl, rfl, rfl, rfl, rfl, rfl, rfl⟩

/-- A branch, taken or not (R264). -/
theorem branch_keeps (f : Flag) (want : Bool) :
    Keeps regs flags (fun c => if getFlag c.p f = want then takeBranch c else c) := by
  apply Keeps.of_eq
  intro k
  split
  · exact ⟨rfl, rfl, rfl, rfl, rfl, rfl, rfl⟩
  · exact ⟨rfl, rfl, rfl, rfl, rfl, rfl, rfl⟩

theorem id_keeps : Keeps regs flags (fun c => c) := .of_eq fun _ => ⟨rfl, rfl, rfl, rfl, rfl, rfl, rfl⟩

end

end Sys2Proof.Machine
end

section
/-! SUPPORT. One meaning per kind of instruction: what `exec` can answer (spec/30_encoding.md R148). -/

namespace Sys2Proof.Machine

/-- What an instruction answers, by its shape (R147, R148): a change of the registers (Implied, Accumulator, Immediate,
jumps and branches), a read, a write, a read-modify-write, an undocumented no-operation, or one of the stack operations.
No register change touches B or Unused. -/
inductive Meaning (s : State) : Result → Prop
  | registers {m : Mode} {c : OpCost} {w : Word} {g : Cpu → Cpu} (hg : Keeps [] [.U, .B] g) :
      Meaning s (.next (onCpu g (prepare m c w s)))
  | read {m : Mode} {c : OpCost} {w : Word} {g : Byte → Cpu → Cpu} (hg : ∀ v, Keeps [] [.U, .B] (g v)) :
      Meaning s (.next (readOp m c w g s))
  | write {m : Mode} {c : OpCost} {w : Word} {g : Cpu → Byte} : Meaning s (.next (writeOp m c w g s))
  | modify {m : Mode} {c : OpCost} {w : Word} {g : Byte → Byte → Byte × Byte} (hg : ResultKeeps [.U, .B] g) :
      Meaning s (.next (modifyOp m c w g s))
  | undocumented {op : Byte} {m : Mode} {c : OpCost} {w : Word} : Meaning s (.next (undocumentedOp op m c w s))
  | call {c : OpCost} {w : Word} : Meaning s (.next (callSubroutine (prepare .absolute c w s)))
  | returnFromSubroutine {c : OpCost} : Meaning s (.next (returnFromSubroutine (prepare .implied c 0 s)))
  | push {c : OpCost} {v : Byte} : Meaning s (.next (push8 v (prepare .implied c 0 s)))
  | pullA {c : OpCost} : Meaning s (.next (pullA (prepare .implied c 0 s)))
  | pullP {c : OpCost} : Meaning s (.next (pullP (prepare .implied c 0 s)))
  | exception {v : Word} {c : OpCost} : Meaning s (.next (takeException v (prepare .implied c 0 s)))
  | returnFromException {c : OpCost} : Meaning s (.next (returnFromException (prepare .implied c 0 s)))
  | halt : Meaning s (.fault .brkHalt)

/-- A register change that keeps more than B and Unused keeps these. -/
theorem Keeps.status {regs : List Reg} {flags : List Flag} {g : Cpu → Cpu} (h : Keeps regs flags g)
    (hf : [.U, .B] ⊆ flags) : Keeps [] [.U, .B] g := h.mono (List.nil_subset _) hf

theorem ResultKeeps.mono {flags flags' : List Flag} {f : Byte → Byte → Byte × Byte} (h : ResultKeeps flags f)
    (hf : flags' ⊆ flags) : ResultKeeps flags' f := fun v p g m => h v p g (hf m)

/-- BRK traps or halts (R293, R294). -/
theorem execBrk_meaning (sig : Byte) (s : State) : Meaning s (execBrk sig s) := by
  unfold execBrk
  cases s.params.brkMode with
  | vector => exact .exception
  | halt => exact .halt

/-- Every instruction's meaning is of one of these shapes. -/
theorem exec_meaning (i : Instr) (s : State) : Meaning s (exec i s) := by
  cases i with
  | ldaImm v => exact .registers ((loadA_keeps fun _ => v).status (by decide))
  | ldaZp _ | ldaZpx _ | ldaAbs _ | ldaAbx _ | ldaAby _ | ldaIzx _ | ldaIzy _ =>
    exact .read fun v => (loadA_keeps fun _ => v).status (by decide)
  | ldxImm v => exact .registers ((loadX_keeps fun _ => v).status (by decide))
  | ldxZp _ | ldxZpy _ | ldxAbs _ | ldxAby _ => exact .read fun v => (loadX_keeps fun _ => v).status (by decide)
  | ldyImm v => exact .registers ((loadY_keeps fun _ => v).status (by decide))
  | ldyZp _ | ldyZpx _ | ldyAbs _ | ldyAbx _ => exact .read fun v => (loadY_keeps fun _ => v).status (by decide)
  | staZp _ | staZpx _ | staAbs _ | staAbx _ | staAby _ | staIzx _ | staIzy _ | stxZp _ | stxZpy _ | stxAbs _ | styZp _
  | styZpx _ | styAbs _ => exact .write
  | tax | tsx => exact .registers ((loadX_keeps _).status (by decide))
  | tay => exact .registers ((loadY_keeps _).status (by decide))
  | txa | tya => exact .registers ((loadA_keeps _).status (by decide))
  | txs => exact .registers (copyXToSp_keeps.status (by decide))
  | inx | dex => exact .registers ((setX_keeps _).status (by decide))
  | iny | dey => exact .registers ((setY_keeps _).status (by decide))
  | adcImm v => exact .registers ((adc_keeps v).status (by decide))
  | adcZp _ | adcZpx _ | adcAbs _ | adcAbx _ | adcAby _ | adcIzx _ | adcIzy _ =>
    exact .read fun v => (adc_keeps v).status (by decide)
  | sbcImm v => exact .registers ((sbc_keeps v).status (by decide))
  | sbcZp _ | sbcZpx _ | sbcAbs _ | sbcAbx _ | sbcAby _ | sbcIzx _ | sbcIzy _ =>
    exact .read fun v => (sbc_keeps v).status (by decide)
  | andImm v => exact .registers ((and_keeps v).status (by decide))
  | andZp _ | andZpx _ | andAbs _ | andAbx _ | andAby _ | andIzx _ | andIzy _ =>
    exact .read fun v => (and_keeps v).status (by decide)
  | oraImm v => exact .registers ((ora_keeps v).status (by decide))
  | oraZp _ | oraZpx _ | oraAbs _ | oraAbx _ | oraAby _ | oraIzx _ | oraIzy _ =>
    exact .read fun v => (ora_keeps v).status (by decide)
  | eorImm v => exact .registers ((eor_keeps v).status (by decide))
  | eorZp _ | eorZpx _ | eorAbs _ | eorAbx _ | eorAby _ | eorIzx _ | eorIzy _ =>
    exact .read fun v => (eor_keeps v).status (by decide)
  | cmpImm v => exact .registers ((cmp_keeps v).status (by decide))
  | cmpZp _ | cmpZpx _ | cmpAbs _ | cmpAbx _ | cmpAby _ | cmpIzx _ | cmpIzy _ =>
    exact .read fun v => (cmp_keeps v).status (by decide)
  | cpxImm v => exact .registers ((cpx_keeps v).status (by decide))
  | cpxZp _ | cpxAbs _ => exact .read fun v => (cpx_keeps v).status (by decide)
  | cpyImm v => exact .registers ((cpy_keeps v).status (by decide))
  | cpyZp _ | cpyAbs _ => exact .read fun v => (cpy_keeps v).status (by decide)
  | bitZp _ | bitAbs _ => exact .read fun v => (bit_keeps v).status (by decide)
  | incZp _ | incZpx _ | incAbs _ | incAbx _ => exact .modify (inc_resultKeeps.mono (by decide))
  | decZp _ | decZpx _ | decAbs _ | decAbx _ => exact .modify (dec_resultKeeps.mono (by decide))
  | aslAcc => exact .registers ((accumulator_keeps asl_resultKeeps).status (by decide))
  | lsrAcc => exact .registers ((accumulator_keeps lsr_resultKeeps).status (by decide))
  | rolAcc => exact .registers ((accumulator_keeps rol_resultKeeps).status (by decide))
  | rorAcc => exact .registers ((accumulator_keeps ror_resultKeeps).status (by decide))
  | aslZp _ | aslZpx _ | aslAbs _ | aslAbx _ => exact .modify (asl_resultKeeps.mono (by decide))
  | lsrZp _ | lsrZpx _ | lsrAbs _ | lsrAbx _ => exact .modify (lsr_resultKeeps.mono (by decide))
  | rolZp _ | rolZpx _ | rolAbs _ | rolAbx _ => exact .modify (rol_resultKeeps.mono (by decide))
  | rorZp _ | rorZpx _ | rorAbs _ | rorAbx _ => exact .modify (ror_resultKeeps.mono (by decide))
  | clc | sec | cli | sei | cld | sed | clv => exact .registers (putFlag_keeps (by decide) _)
  | nop => exact .registers id_keeps
  | jmpAbs _ | jmpInd _ => exact .registers (setPc_keeps _)
  | bcc _ | bcs _ | beq _ | bne _ | bmi _ | bpl _ | bvc _ | bvs _ => exact .registers (branch_keeps _ _)
  | jsr _ => exact .call
  | rts => exact .returnFromSubroutine
  | pha | php => exact .push
  | pla => exact .pullA
  | plp => exact .pullP
  | brk sig => exact execBrk_meaning sig s
  | rti => exact .returnFromException
  | _ => exact .undocumented

end Sys2Proof.Machine
end

section
/-! SUPPORT. What keeps the machine invariant (spec/10_state.md R25, R26, spec/60_exceptions.md R510). -/

namespace Sys2Proof.Machine

/-- The invariant's clause on P, flag by flag (R26). -/
theorem status_iff (p : Byte) : p &&& 0x30 = 0x20 ↔ getFlag p .U = true ∧ getFlag p .B = false := by
  revert p
  decide

theorem Keeps.statusClause {g : Cpu → Cpu} (hg : Keeps [] [.U, .B] g) {k : Cpu} (h : k.p &&& 0x30 = 0x20) :
    (g k).p &&& 0x30 = 0x20 := by
  rw [status_iff] at h ⊢
  rwa [hg.flag k .U (by simp), hg.flag k .B (by simp)]

theorem pulledStatus_statusClause (v : Byte) : pulledStatus v &&& 0x30 = 0x20 := by
  rw [status_iff]
  simp

/-- P as Reset leaves it (R540). -/
theorem resetStatus_statusClause : (0x24 : Byte) &&& 0x30 = 0x20 := rfl

/-- All that the invariant speaks of. -/
def State.audited (s : State) :
    Byte × Memory × Memory × Option DiskImage × Option DiskImage × Nat × Params :=
  (s.cpu.p, s.main, s.aux, s.disk.disk1, s.disk.disk2, s.seq.frameCycles, s.params)

theorem State.Inv.of_audited {s t : State} (h : s.Inv) (e : t.audited = s.audited) : t.Inv := by
  simp only [State.audited, Prod.mk.injEq] at e
  obtain ⟨hp, hm, hx, h1, h2, hf, hq⟩ := e
  exact ⟨hp ▸ h.status, hm ▸ h.mainWf, hx ▸ h.auxWf, h1 ▸ h.disk1Wf, h2 ▸ h.disk2Wf, hf ▸ h.frame,
    hq ▸ h.paramsWf⟩

/-- Where the surroundings stay as they are, only P and the two banks can break the invariant. -/
theorem State.Inv.of_surroundings {s t : State} (h : s.Inv) (k : SameSurroundings s t)
    (hp : t.cpu.p &&& 0x30 = 0x20) (hm : t.main.wf = true) (hx : t.aux.wf = true) : t.Inv where
  status := hp
  mainWf := hm
  auxWf := hx
  disk1Wf := k.disk1 ▸ h.disk1Wf
  disk2Wf := k.disk2 ▸ h.disk2Wf
  frame := k.seq ▸ h.frame
  paramsWf := k.params ▸ h.paramsWf

/-! ### The operations of a tick -/

/-- A change of the state that touches neither RAM nor the CPU, as a read does. -/
theorem State.Inv.of_busFrame {s t : State} (h : s.Inv) (k : BusFrame s t) (hm : t.main = s.main)
    (hx : t.aux = s.aux) : t.Inv :=
  h.of_surroundings (.of_busFrame k) (k.cpu ▸ h.status) (hm ▸ h.mainWf) (hx ▸ h.auxWf)

theorem State.Inv.memRead {s : State} (h : s.Inv) (a : Word) : (memRead a s).2.Inv :=
  h.of_busFrame (memRead_frame a s) (memRead_main a s) (memRead_aux a s)

theorem State.Inv.memRead16 {s : State} (h : s.Inv) (a : Word) : (memRead16 a s).2.Inv :=
  (h.memRead a).memRead _

theorem State.Inv.memWrite {s : State} (h : s.Inv) (a : Word) (v : Byte) : (memWrite a v s).Inv := by
  obtain ⟨hm, hx⟩ := memWrite_wf a v h.mainWf h.auxWf
  exact h.of_surroundings (memWrite_surroundings a v s) (by rw [memWrite_cpu]; exact h.status) hm hx

theorem State.Inv.onCpu {s : State} (h : s.Inv) {g : Cpu → Cpu} (hp : (g s.cpu).p &&& 0x30 = 0x20) :
    (onCpu g s).Inv :=
  h.of_surroundings (onCpu_surroundings g s) hp h.mainWf h.auxWf

theorem State.Inv.setP {s : State} (h : s.Inv) {p : Byte} (hp : p &&& 0x30 = 0x20) :
    (Machine.onCpu (fun c => { c with p := p }) s).Inv := h.onCpu hp

theorem State.Inv.setSp {s : State} (h : s.Inv) (sp : Byte) : (Machine.onCpu (fun c => { c with sp := sp }) s).Inv :=
  h.of_audited rfl

theorem State.Inv.setPc {s : State} (h : s.Inv) (pc : Word) : (Machine.onCpu (fun c => { c with pc := pc }) s).Inv :=
  h.of_audited rfl

theorem State.Inv.prepare {s : State} (h : s.Inv) (m : Mode) (c : OpCost) (w : Word) : (prepare m c w s).Inv :=
  h.of_surroundings (prepare_surroundings m c w s) (by rw [prepare_p]; exact h.status)
    (by rw [prepare_main]; exact h.mainWf) (by rw [prepare_aux]; exact h.auxWf)

theorem State.Inv.push8 {s : State} (h : s.Inv) (v : Byte) : (push8 v s).Inv := (h.memWrite _ v).setSp _

theorem State.Inv.push16 {s : State} (h : s.Inv) (w : Word) : (push16 w s).Inv := (h.push8 _).push8 _

theorem State.Inv.pull8 {s : State} (h : s.Inv) : (pull8 s).2.Inv := (h.setSp _).memRead _

theorem State.Inv.pull16 {s : State} (h : s.Inv) : (pull16 s).2.Inv := h.pull8.pull8

theorem State.Inv.completeOperand {s : State} (h : s.Inv) (m wanted : Mode) (w : Word) :
    (completeOperand m wanted w s).2.Inv := by
  obtain ⟨hb, hm, hx⟩ := completeOperand_frame m wanted w s
  exact h.of_busFrame hb hm hx

theorem State.Inv.fetch {s : State} (h : s.Inv) : (fetch s).2.Inv := by
  obtain ⟨hb, hm, hx⟩ := fetch_frame s
  exact h.of_busFrame hb hm hx

/-- PLA's flags are those of a load of A (R283). -/
theorem State.Inv.pullA {s : State} (h : s.Inv) : (pullA s).Inv :=
  h.pull8.onCpu (((loadA_keeps fun _ => (Machine.pull8 s).1).status (by decide)).statusClause h.pull8.status)

/-- Taking the exception sets I and leaves B and Unused of P as they are (R501). -/
theorem State.Inv.takeException {s : State} (h : s.Inv) (v : Word) : (takeException v s).Inv := by
  have ht := (h.push16 s.cpu.pc).push8 (pushedStatus s.cpu.p)
  have hI : Keeps [] [.U, .B] (Cpu.putFlag .I true) := putFlag_keeps (by decide) true
  exact ((ht.onCpu (hI.statusClause ht.status)).memRead16 v).setPc _

/-- Returning from it takes P from the stack, B cleared and Unused set (R295). -/
theorem State.Inv.returnFromException {s : State} (h : s.Inv) : (returnFromException s).Inv :=
  (h.pull8.setP (pulledStatus_statusClause _)).pull16.setPc _

/-! ### One tick -/

/-- Every meaning that answers a next state keeps the invariant. -/
theorem Meaning.inv {s t : State} {r : Result} (hr : Meaning s r) (h : s.Inv) (ht : r = .next t) : t.Inv := by
  cases hr with
  | registers hg =>
    cases ht
    exact (h.prepare _ _ _).onCpu (hg.statusClause (h.prepare _ _ _).status)
  | read hg =>
    cases ht
    exact ((h.prepare _ _ _).memRead _).onCpu ((hg _).statusClause ((h.prepare _ _ _).memRead _).status)
  | write => cases ht; exact (h.prepare _ _ _).memWrite _ _
  | @modify m c w g hg =>
    cases ht
    have hread := (h.prepare m c w).memRead (Machine.prepare m c w s).cpu.al
    refine (hread.memWrite _ _).setP ?_
    have hs := hread.status
    rw [status_iff] at hs ⊢
    rwa [hg _ _ .U (by simp), hg _ _ .B (by simp)]
  | undocumented => cases ht; exact (h.completeOperand _ _ _).prepare _ _ _
  | call => cases ht; exact ((h.prepare _ _ _).push16 _).setPc _
  | returnFromSubroutine => cases ht; exact (h.prepare _ _ _).pull16.setPc _
  | push => cases ht; exact (h.prepare _ _ _).push8 _
  | pullA => cases ht; exact (h.prepare _ _ _).pullA
  | pullP => cases ht; exact (h.prepare _ _ _).pull8.setP (pulledStatus_statusClause _)
  | exception => cases ht; exact (h.prepare _ _ _).takeException _
  | returnFromException => cases ht; exact (h.prepare _ _ _).returnFromException
  | halt => cases ht

theorem State.Inv.exec {s t : State} {i : Instr} (h : s.Inv) (ht : exec i s = .next t) : t.Inv :=
  (exec_meaning i s).inv h ht

theorem State.Inv.tick {s t : State} (h : s.Inv) (ht : tick s = .next t) : t.Inv := h.fetch.exec ht

/-! ### Between ticks -/

theorem State.Inv.startOfRun {s : State} (h : s.Inv) : (startOfRun s).Inv := by
  unfold Machine.startOfRun
  split
  · exact h
  · exact ⟨h.status, h.mainWf, h.auxWf, h.disk1Wf, h.disk2Wf, Nat.zero_lt_succ _, h.paramsWf⟩

theorem State.Inv.keyDown {s : State} (h : s.Inv) (ascii : BitVec 7) : (keyDown ascii s).Inv := by
  unfold Machine.keyDown
  split
  · exact h
  · exact h.of_audited rfl

/-- A drive takes a well-formed image or none (R416). -/
theorem State.Inv.setDrive {s : State} (h : s.Inv) (inDrive2 : Bool) {img : Option DiskImage}
    (hi : ∀ i, img = some i → i.wf = true) : (setDrive inDrive2 img s).Inv := by
  cases inDrive2 with
  | false => exact ⟨h.status, h.mainWf, h.auxWf, hi, h.disk2Wf, h.frame, h.paramsWf⟩
  | true => exact ⟨h.status, h.mainWf, h.auxWf, h.disk1Wf, hi, h.frame, h.paramsWf⟩

/-- Reset leaves P at $24 and the banks, the diskettes and the frame count as they are (R540 to R543). -/
theorem State.Inv.resetProcedure {s : State} (h : s.Inv) : (resetProcedure s).Inv := by
  have hc := (h.onCpu (g := fun c => { c with a := 0, x := 0, y := 0, p := 0x24, sp := 0xFD })
    resetStatus_statusClause).memRead16 resetVector
  exact hc.of_audited rfl

theorem State.Inv.warmReset {s : State} (h : s.Inv) : (warmReset s).Inv := h.resetProcedure.of_audited rfl

theorem State.Inv.hostEvent {s : State} (h : s.Inv) (e : HostEvent) : (hostEvent e s).Inv := by
  cases e with
  | keyDown ascii => exact h.keyDown ascii
  | printableKey code => exact h.keyDown _
  | namedKey key => exact h.keyDown _
  | modifierKey key pressed => exact h.of_audited rfl
  | controlKey pressed => exact h.of_audited rfl
  | resetKey =>
    cases hc : s.host.controlHeld with
    | true => simpa [Machine.hostEvent, hc] using h.warmReset
    | false => simpa [Machine.hostEvent, hc] using h
  | insertDisk inDrive2 img =>
    cases hw : img.wf with
    | true => simpa [Machine.hostEvent, hw] using h.setDrive inDrive2 (by rintro _ ⟨⟩; exact hw)
    | false => simpa [Machine.hostEvent, hw] using h
  | ejectDisk inDrive2 => exact h.setDrive inDrive2 nofun
  | setColor enabled => exact h.of_audited rfl
  | setMonoColor index => exact h.of_audited rfl

theorem State.Inv.hostEvents {s : State} (h : s.Inv) (es : List HostEvent) : (hostEvents es s).Inv := by
  induction es generalizing s with
  | nil => exact h
  | cons e es ih => exact ih (h.hostEvent e)

theorem State.Inv.beforeTick {s : State} (h : s.Inv) : (beforeTick s).Inv := by
  have hr := h.startOfRun
  unfold Machine.beforeTick deliverEvents
  split
  · exact hr
  · exact (hr.of_audited (by rfl)).hostEvents _

/-- The sequencer restarts the count at a frame's end, and else has not reached it (R510). -/
theorem State.Inv.afterTick {s : State} (h : s.Inv) (n : Nat) : (afterTick n s).Inv := by
  unfold Machine.afterTick
  dsimp only
  split
  · exact ⟨h.status, h.mainWf, h.auxWf, h.disk1Wf, h.disk2Wf, Nat.zero_lt_succ _, h.paramsWf⟩
  · next he =>
    have hlt : frameCount n s < Config.frameLength := by simpa [frameEnds] using he
    exact ⟨h.status, h.mainWf, h.auxWf, h.disk1Wf, h.disk2Wf, hlt, h.paramsWf⟩

/-- A step that completes is its tick with the sequencer's action after it (R510). -/
theorem step_next {s t : State} (h : step s = .next t) :
    ∃ u n, tick (beforeTick s) = .next u ∧ t = afterTick n u := by
  unfold step at h
  split at h
  · next u hu => cases h; exact ⟨u, _, hu, rfl⟩
  · cases h
  · cases h

/-- The reset state meets the invariant for every well-formed parameter record (R47). -/
theorem resetWith_inv {p : Params} (hp : p.wellFormed = true) : (State.resetWith p).Inv :=
  ⟨resetStatus_statusClause, rfl, rfl, nofun, nofun, Nat.zero_lt_succ _, hp⟩

theorem defaultParams_wellFormed : Config.defaultParams.wellFormed = true := by
  simp only [Params.wellFormed, Config.defaultParams, List.length_replicate, List.length_map, List.length_range]
  rfl

end Sys2Proof.Machine

namespace Sys2Proof.Proofs

open Sys2Proof.Machine

/-- Settles O10: the start of run, each host event, the tick and the sequencer keep the invariant. -/
theorem stepKeepsInv : Obligations.StepKeepsInv := by
  intro s t h ht
  obtain ⟨u, n, hu, rfl⟩ := step_next ht
  exact (h.beforeTick.tick hu).afterTick n

/-- Settles O11. -/
theorem resetInv : Obligations.ResetInv := ⟨resetWith_inv defaultParams_wellFormed, fun _ => resetWith_inv⟩

/-- Settles O12, from the law of a flag read after `setNZ`. -/
theorem setNZ : Obligations.SetNZ := by
  intro v p
  refine ⟨?_, ?_, ?_⟩
  · rw [getFlag_setNZ]; rfl
  · rw [getFlag_setNZ]; rfl
  · simp

end Sys2Proof.Proofs
end

section
/-! SUPPORT. The frames of the instructions, put together from those of their parts (spec/10_state.md R29). -/

namespace Sys2Proof.Machine

/-! ### The parts -/

theorem Leaves.trans {regs : List Reg} {flags : List Flag} {s t u : State} (h : Leaves regs flags s t)
    (k : Leaves regs flags t u) : Leaves regs flags s u := by
  obtain ⟨hr, hf, hi, hn, hs⟩ := h
  obtain ⟨kr, kf, ki, kn, ks⟩ := k
  exact ⟨fun r m => (kr r m).trans (hr r m), fun f m => (kf f m).trans (hf f m), ki.trans hi, kn.trans hn, hs.trans ks⟩

/-- Resolving, advancing and counting, in any mode (R141). -/
theorem Leaves.prepare {regs : List Reg} {flags : List Flag} (m : Mode) (c : OpCost) (w : Word) (s : State) :
    Leaves regs flags s (prepare m c w s) :=
  ⟨fun r _ => prepare_reg m c w s r, fun f _ => by rw [prepare_p], prepare_irq m c w s, prepare_nmi m c w s,
    prepare_surroundings m c w s⟩

theorem Leaves.onCpu {regs : List Reg} {flags : List Flag} {g : Cpu → Cpu} (hg : Keeps regs flags g) (s : State) :
    Leaves regs flags s (onCpu g s) := by
  obtain ⟨hi, hn⟩ := hg.lines s.cpu
  exact ⟨hg.reg s.cpu, hg.flag s.cpu, hi, hn, onCpu_surroundings g s⟩

theorem Leaves.of_busFrame {regs : List Reg} {flags : List Flag} {s t : State} (h : BusFrame s t) :
    Leaves regs flags s t :=
  ⟨fun _ _ => by rw [h.cpu], fun _ _ => by rw [h.cpu], by rw [h.cpu], by rw [h.cpu], .of_busFrame h⟩

/-- A stack pointer and any surroundings-preserving change of RAM, as a push and a pull make. -/
theorem Leaves.of_sp {regs : List Reg} {flags : List Flag} {s t : State} {sp : Byte} (hsp : Reg.SP ∉ regs)
    (hc : t.cpu = { s.cpu with sp := sp }) (hs : SameSurroundings s t) : Leaves regs flags s t := by
  refine ⟨fun r m => ?_, fun f _ => by rw [hc], by rw [hc], by rw [hc], hs⟩
  cases r with
  | SP => exact absurd m hsp
  | A => rw [hc]; rfl
  | X => rw [hc]; rfl
  | Y => rw [hc]; rfl

/-! ### Frames that compose -/

/-- From `s` to `t` nothing moves but the places of RAM named, the registers and flags not named, and the bus lines. -/
structure Frame (places : List (Bank × Nat)) (regs : List Reg) (flags : List Flag) (s t : State) : Prop where
  leaves : Leaves regs flags s t
  ram : SameRamExcept places s t
  devices : SameDevices s t

section
variable {places : List (Bank × Nat)} {regs : List Reg} {flags : List Flag} {s t u : State}

theorem Frame.trans (h : Frame places regs flags s t) (k : Frame places regs flags t u) :
    Frame places regs flags s u :=
  ⟨h.leaves.trans k.leaves, fun b o m => (k.ram b o m).trans (h.ram b o m), h.devices.trans k.devices⟩

theorem Frame.prepare {m : Mode} (hm : m ≠ .indirect) (c : OpCost) (w : Word) (s : State) :
    Frame places regs flags s (prepare m c w s) :=
  ⟨.prepare m c w s, fun b o _ => prepare_sameRam m c w s b o, prepare_devices m c w s fun e => absurd e hm⟩

theorem Frame.onCpu {g : Cpu → Cpu} (hg : Keeps regs flags g) (s : State) : Frame places regs flags s (onCpu g s) :=
  ⟨.onCpu hg s, fun b o _ => ramRead_onCpu g s b o, .refl s⟩

theorem Frame.setPc (pc : Word) (s : State) :
    Frame places regs flags s (Machine.onCpu (fun c => { c with pc := pc }) s) :=
  .onCpu (setPc_keeps fun _ => pc) s

/-- A change of the registers alone (R148). -/
theorem Frame.registers {m : Mode} {c : OpCost} {w : Word} {g : Cpu → Cpu} (hg : Keeps regs flags g)
    (hm : m ≠ .indirect := by decide) : Frame places regs flags s (Machine.onCpu g (Machine.prepare m c w s)) :=
  (Frame.prepare hm c w s).trans (.onCpu hg _)

theorem Frame.memRead {a : Word} (ha : isIo a = false) (s : State) : Frame places regs flags s (memRead a s).2 :=
  ⟨.of_busFrame (memRead_frame a s), fun b o _ => memRead_sameRam a s b o, memRead_devices ha s⟩

theorem Frame.push8 (hsp : Reg.SP ∉ regs) (v : Byte) (hp : stackPlace s s.cpu.sp ∈ places) :
    Frame places regs flags s (push8 v s) :=
  ⟨.of_sp hsp (push8_cpu v s) (push8_surroundings v s),
    fun b o m => (push8_ram v s b o).trans (if_neg fun e : stackPlace s s.cpu.sp = (b, o) => m (e ▸ hp)),
    push8_devices v s⟩

theorem Frame.pull8 (hsp : Reg.SP ∉ regs) (s : State) : Frame places regs flags s (pull8 s).2 :=
  ⟨.of_sp hsp (pull8_cpu s) (pull8_surroundings s), fun b o _ => pull8_ram s b o, pull8_devices s⟩

theorem Frame.push16 (hsp : Reg.SP ∉ regs) (w : Word) (hp : stackPlace s s.cpu.sp ∈ places)
    (hq : stackPlace s (s.cpu.sp - 1) ∈ places) : Frame places regs flags s (push16 w s) := by
  refine (Frame.push8 hsp _ hp).trans (.push8 hsp _ ?_)
  rwa [push8_cpu, stackPlace, push8_sw]

theorem Frame.pull16 (hsp : Reg.SP ∉ regs) (s : State) : Frame places regs flags s (pull16 s).2 :=
  (Frame.pull8 hsp s).trans (.pull8 hsp _)

end

/-- Preparing moves neither SP nor the bank of the stack. -/
theorem stackPlace_prepare {m : Mode} (hm : m ≠ .indirect) (c : OpCost) (w : Word) (s : State) (sp : Byte) :
    stackPlace (prepare m c w s) sp = stackPlace s sp := by
  obtain ⟨hsw, -⟩ := prepare_devices m c w s fun e => absurd e hm
  rw [stackPlace, hsw, stackPlace]

/-! ### Lists of instructions and of forms -/

section
variable {places : List (Bank × Nat)} {regs : List Reg} {flags : List Flag} {s : State}

theorem LeavesAllBut.nil : LeavesAllBut places [] regs flags s := nofun

theorem LeavesAllBut.cons {i : Instr} {is : List Instr} {u : State} (he : exec i s = .next u)
    (hf : Frame places regs flags s u) (hs : LeavesAllBut places is regs flags s) :
    LeavesAllBut places (i :: is) regs flags s := by
  intro j hj t ht
  rcases List.mem_cons.1 hj with rfl | hj
  · rw [he] at ht
    cases ht
    exact ⟨hf.leaves, hf.ram, hf.devices⟩
  · exact hs j hj t ht

theorem ReadsOnly.append {forms forms' : List Shape} (h : ReadsOnly forms regs flags s)
    (k : ReadsOnly forms' regs flags s) : ReadsOnly (forms ++ forms') regs flags s :=
  fun f hf => (List.mem_append.1 hf).elim (h f) (k f)

end

/-- The form is a read instruction with operation `g`, in a mode other than Indirect (R148). -/
def Shape.ReadsWith (g : Byte → Cpu → Cpu) (f : Shape) : Prop :=
  f.mode ≠ .indirect ∧ ∀ s, exec f.instr s = .next (readOp f.mode f.cost f.operand g s)

theorem ReadsOnly.of_readsWith {forms : List Shape} {regs : List Reg} {flags : List Flag} {g : Byte → Cpu → Cpu}
    (h : ∀ f ∈ forms, f.ReadsWith g) (hg : ∀ v, Keeps regs flags (g v)) (s : State) :
    ReadsOnly forms regs flags s := by
  intro f hf t ht
  obtain ⟨hm, he⟩ := h f hf
  rw [he] at ht
  cases ht
  exact readOp_frame hm f.cost f.operand s g regs flags (fun v => (hg v).reg) (fun v => (hg v).flag)
    (fun v => (hg v).lines)

/-- The read instructions: the operation of each with its memory forms (R150). -/
def readTable (b : Byte) (w : Word) : List ((Byte → Cpu → Cpu) × List Shape) :=
  [(Cpu.loadA, Forms.lda b w), (Cpu.loadX, Forms.ldx b w), (Cpu.loadY, Forms.ldy b w), (Cpu.adc, Forms.adc b w),
   (Cpu.sbc, Forms.sbc b w), (Cpu.and, Forms.and b w), (Cpu.ora, Forms.ora b w), (Cpu.eor, Forms.eor b w),
   (Cpu.cmp, Forms.cmp b w), (Cpu.cpx, Forms.cpx b w), (Cpu.cpy, Forms.cpy b w), (Cpu.bit, Forms.bit b w)]

/-- Every form of the table runs its operation. -/
theorem readTable_readsWith (b : Byte) (w : Word) : ∀ e ∈ readTable b w, ∀ f ∈ e.2, f.ReadsWith e.1 := by
  intro e he f hf
  fin_cases he <;> fin_cases hf <;> exact ⟨nofun, fun _ => rfl⟩

/-- The frame of one line of the table. -/
theorem ReadsOnly.of_readTable {b : Byte} {w : Word} {g : Byte → Cpu → Cpu} {forms : List Shape} {regs : List Reg}
    {flags : List Flag} {s : State} (he : (g, forms) ∈ readTable b w) (hg : ∀ v, Keeps regs flags (g v)) :
    ReadsOnly forms regs flags s := .of_readsWith (readTable_readsWith b w _ he) hg s

/-! ### The stack instructions -/

section
variable {places : List (Bank × Nat)} {flags : List Flag} {s : State}

theorem Frame.pullA (s : State) : Frame places [.X, .Y] [.V, .U, .B, .D, .I, .C] s (pullA s) :=
  (Frame.pull8 (by decide) s).trans
    (.onCpu ((loadA_keeps fun _ => (Machine.pull8 s).1).mono (by decide) (by decide)) _)

/-- P changes, the registers stay. -/
theorem setP_keeps (p : Byte) : Keeps [.A, .X, .Y] [] (fun c => { c with p := p }) :=
  ⟨by simp [Reg.get], by simp, fun _ => ⟨rfl, rfl⟩⟩

theorem Frame.pullP (s : State) : Frame places [.A, .X, .Y] [] s (pullP s) :=
  (Frame.pull8 (by decide) s).trans (.onCpu (setP_keeps _) _)

theorem Frame.call (hp : stackPlace s s.cpu.sp ∈ places) (hq : stackPlace s (s.cpu.sp - 1) ∈ places) :
    Frame places [.A, .X, .Y] allFlags s (callSubroutine s) :=
  (Frame.push16 (by decide) _ hp hq).trans (.setPc _ _)

theorem Frame.returnFromSubroutine (s : State) : Frame places [.A, .X, .Y] allFlags s (returnFromSubroutine s) :=
  (Frame.pull16 (by decide) s).trans (.setPc _ _)

/-- Three pushes, then I, then the vector, which no device answers (R501). -/
theorem Frame.takeException (hp : stackPlace s s.cpu.sp ∈ places) (hq : stackPlace s (s.cpu.sp - 1) ∈ places)
    (hr : stackPlace s (s.cpu.sp - 2) ∈ places) :
    Frame places [.A, .X, .Y] [.N, .V, .U, .B, .D, .Z, .C] s (takeException brkVector s) := by
  have hpc : Frame places [.A, .X, .Y] [.N, .V, .U, .B, .D, .Z, .C] s (Machine.push16 s.cpu.pc s) :=
    .push16 (by decide) _ hp hq
  have hstatus := hpc.trans (.push8 (by decide) (pushedStatus s.cpu.p) (by
    rwa [push16_cpu, stackPlace, push16_sw]))
  have hI := hstatus.trans (.onCpu (putFlag_keeps (f := .I) (by decide) true) _)
  have hvector := (hI.trans (.memRead (a := brkVector) (by decide) _)).trans
    (.memRead (a := brkVector + 1) (by decide) _)
  exact hvector.trans (.setPc _ _)

theorem Frame.returnFromException (s : State) : Frame places [.A, .X, .Y] [] s (returnFromException s) :=
  (((Frame.pull8 (by decide) s).trans (.onCpu (setP_keeps _) _)).trans (.pull16 (by decide) _)).trans
    (.setPc _ _)

end

/-- BRK that completes has taken the exception (R293). -/
theorem execBrk_next {sig : Byte} {s t : State} (h : exec (.brk sig) s = .next t) :
    t = takeException brkVector (prepare .implied ⟨2, 7, 0⟩ 0 s) := by
  replace h : execBrk sig s = .next t := h
  unfold execBrk at h
  split at h
  · cases h; rfl
  · cases h

end Sys2Proof.Machine

namespace Sys2Proof.Proofs

open Sys2Proof.Machine

/-- Settles O37: each read form by its shape, each Immediate form by its operation on the registers. -/
theorem frameOfReads : Obligations.FrameOfReads := by
  intro b w s
  -- the lines of the table, counted from 0
  have line (k : Fin 12) : (readTable b w)[k] ∈ readTable b w := List.getElem_mem k.isLt
  refine ⟨?_, ?_, ?_, ?_, ?_, ?_, ?_, ?_, ?_, ?_, ?_, ?_, ?_⟩
  · exact .of_readTable (line 0) fun v => loadA_keeps fun _ => v
  · exact .of_readTable (line 1) fun v => loadX_keeps fun _ => v
  · exact .of_readTable (line 2) fun v => loadY_keeps fun _ => v
  · exact .append (.of_readTable (line 3) adc_keeps) (.of_readTable (line 4) sbc_keeps)
  · exact .append (.append (.of_readTable (line 5) and_keeps) (.of_readTable (line 6) ora_keeps))
      (.of_readTable (line 7) eor_keeps)
  · exact .append (.append (.of_readTable (line 8) cmp_keeps) (.of_readTable (line 9) cpx_keeps))
      (.of_readTable (line 10) cpy_keeps)
  · exact .of_readTable (line 11) bit_keeps
  · exact .cons rfl (.registers (loadA_keeps fun _ => b)) .nil
  · exact .cons rfl (.registers (loadX_keeps fun _ => b)) .nil
  · exact .cons rfl (.registers (loadY_keeps fun _ => b)) .nil
  · exact .cons rfl (.registers (adc_keeps b)) (.cons rfl (.registers (sbc_keeps b)) .nil)
  · exact .cons rfl (.registers (and_keeps b))
      (.cons rfl (.registers (ora_keeps b)) (.cons rfl (.registers (eor_keeps b)) .nil))
  · exact .cons rfl (.registers (cmp_keeps b))
      (.cons rfl (.registers (cpx_keeps b)) (.cons rfl (.registers (cpy_keeps b)) .nil))

/-- Settles O40, instruction by instruction. -/
theorem frameOfRegisterInstructions : Obligations.FrameOfRegisterInstructions := by
  intro s
  refine ⟨?_, ?_, ?_, ?_, ?_, ?_, ?_, ?_, ?_, ?_⟩
  · exact .cons rfl (.registers (loadX_keeps _)) (.cons rfl (.registers (loadX_keeps _))
      (.cons rfl (.registers (setX_keeps _)) (.cons rfl (.registers (setX_keeps _)) .nil)))
  · exact .cons rfl (.registers (loadY_keeps _)) (.cons rfl (.registers (setY_keeps _))
      (.cons rfl (.registers (setY_keeps _)) .nil))
  · exact .cons rfl (.registers (loadA_keeps _)) (.cons rfl (.registers (loadA_keeps _)) .nil)
  · exact .cons rfl (.registers copyXToSp_keeps) .nil
  · exact .cons rfl (.registers (accumulator_keeps asl_resultKeeps))
      (.cons rfl (.registers (accumulator_keeps lsr_resultKeeps))
      (.cons rfl (.registers (accumulator_keeps rol_resultKeeps))
      (.cons rfl (.registers (accumulator_keeps ror_resultKeeps)) .nil)))
  · exact .cons rfl (.registers (putFlag_keeps (by decide) _)) (.cons rfl (.registers (putFlag_keeps (by decide) _)) .nil)
  · exact .cons rfl (.registers (putFlag_keeps (by decide) _)) (.cons rfl (.registers (putFlag_keeps (by decide) _)) .nil)
  · exact .cons rfl (.registers (putFlag_keeps (by decide) _)) (.cons rfl (.registers (putFlag_keeps (by decide) _)) .nil)
  · exact .cons rfl (.registers (putFlag_keeps (by decide) _)) .nil
  · exact .cons rfl (.prepare (by decide) _ _ s) .nil

/-- Settles O41: jumps and branches change PC and the cycle count, calls and returns the stack as well. -/
theorem frameOfControl : Obligations.FrameOfControl := by
  intro b w s
  refine ⟨?_, ?_, ?_, ?_⟩
  · exact .cons rfl (.registers (setPc_keeps _))
      (.cons rfl (.registers (branch_keeps _ _)) (.cons rfl (.registers (branch_keeps _ _))
      (.cons rfl (.registers (branch_keeps _ _)) (.cons rfl (.registers (branch_keeps _ _))
      (.cons rfl (.registers (branch_keeps _ _)) (.cons rfl (.registers (branch_keeps _ _))
      (.cons rfl (.registers (branch_keeps _ _)) (.cons rfl (.registers (branch_keeps _ _)) .nil))))))))
  · rintro t ⟨⟩
    exact ⟨(Leaves.prepare _ _ _ _).trans (.onCpu (setPc_keeps _) _), fun bank off => by
      rw [jumpOp, ramRead_onCpu, prepare_sameRam], fun h => prepare_devices .indirect ⟨3, 5, 0⟩ w s fun _ => h⟩
  · have hready := Frame.prepare (places := [stackPlace s s.cpu.sp, stackPlace s (s.cpu.sp - 1)]) (regs := [.A, .X, .Y])
      (flags := allFlags) (m := .absolute) (by decide) ⟨3, 6, 0⟩ w s
    refine .cons rfl (hready.trans (.call ?_ ?_)) .nil
    · simp [stackPlace_prepare]
    · simp [stackPlace_prepare]
  · exact .cons rfl ((Frame.prepare (by decide) _ _ s).trans (.returnFromSubroutine _)) .nil

/-- Settles O42: the frames of a push, a pull and the exception, after `prepare`. -/
theorem frameOfStack : Obligations.FrameOfStack := by
  intro sig s
  have ready : ∀ {places regs flags} (c : OpCost), Frame places regs flags s (prepare .implied c 0 s) :=
    fun c => .prepare (by decide) c 0 s
  refine ⟨?_, ?_, ?_, ?_⟩
  · have hp : ∀ c, stackPlace (prepare .implied c 0 s) (prepare .implied c 0 s).cpu.sp ∈ [stackPlace s s.cpu.sp] := by
      simp [stackPlace_prepare]
    exact .cons rfl ((ready _).trans (.push8 (by decide) _ (hp _)))
      (.cons rfl ((ready _).trans (.push8 (by decide) _ (hp _))) .nil)
  · exact .cons rfl ((ready _).trans (.pullA _)) .nil
  · exact .cons rfl ((ready _).trans (.pullP _)) (.cons rfl ((ready _).trans (.returnFromException _)) .nil)
  · intro i hi t ht
    obtain rfl := List.mem_singleton.1 hi
    obtain rfl := execBrk_next ht
    have hf := (ready (places := [stackPlace s s.cpu.sp, stackPlace s (s.cpu.sp - 1), stackPlace s (s.cpu.sp - 2)])
      ⟨2, 7, 0⟩).trans (.takeException (by simp [stackPlace_prepare]) (by simp [stackPlace_prepare])
      (by simp [stackPlace_prepare]))
    exact ⟨hf.leaves, hf.ram, hf.devices⟩

end Sys2Proof.Proofs
end

section
/-! SUPPORT. The keyboard strobe, the input mirrors and power-on (spec/10_state.md R42, R47,
spec/20_memory.md R106, R110). -/

namespace Sys2Proof.Machine

/-- The addresses of the four input mirrors, less $C000 (R107, R110). -/
def inputMirrors : List Nat := [0x19, 0x61, 0x62, 0x63]

/-- A read of a mirror's address draws (R107, R110). -/
theorem softSwitchRead_mirror {n : Nat} (h : n ∈ inputMirrors) (s : State) :
    softSwitchRead n s = drawMirror (mirrorFlag s.mirrors n) s := by
  fin_cases h <;> rfl

/-- A write there does nothing (R110). -/
theorem softSwitchWrite_mirror {n : Nat} (h : n ∈ inputMirrors) (s : State) : softSwitchWrite n s = s := by
  fin_cases h <;> rfl

theorem mirrorAddr_bounds {n : Nat} (h : n ∈ inputMirrors) : n < 0x100 ∧ ¬(0xE0 ≤ n ∧ n ≤ 0xEF) := by
  fin_cases h <;> decide

/-- A bus read of a mirror: the draw's byte on the data lines, and the state after the draw (R42). -/
theorem memRead_mirror {n : Nat} (h : n ∈ inputMirrors) (s : State) :
    memRead (BitVec.ofNat 16 (0xC000 + n)) s =
      ((drawMirror (mirrorFlag s.mirrors n) s).1,
        withBus (drawMirror (mirrorFlag s.mirrors n) s).2 (BitVec.ofNat 16 (0xC000 + n))
          (drawMirror (mirrorFlag s.mirrors n) s).1 .read) := by
  obtain ⟨hn, hd⟩ := mirrorAddr_bounds h
  rw [memRead_io hn hd, softSwitchRead_mirror h]

theorem memWrite_mirror {n : Nat} (h : n ∈ inputMirrors) (v : Byte) (s : State) :
    memWrite (BitVec.ofNat 16 (0xC000 + n)) v s = withBus s (BitVec.ofNat 16 (0xC000 + n)) v .write := by
  obtain ⟨hn, hd⟩ := mirrorAddr_bounds h
  rw [memWrite_switch hn hd, softSwitchWrite_mirror h]

theorem drawMirror_nil {s : State} (h : s.host.draws = []) (level : Bool) :
    drawMirror level s = (flag80 level, s) := by
  simp [drawMirror, h]

theorem drawMirror_cons {s : State} {d : Bool} {rest : List Bool} (h : s.host.draws = d :: rest) (level : Bool) :
    drawMirror level s = (flag80 d, { s with host := { s.host with draws := rest } }) := by
  simp [drawMirror, h]

/-- Under the reset mapping the top of memory reads the system ROM (R99, R542). -/
theorem mappedByte_atReset {s : State} (hs : s.sw = Switches.atReset) {a : Word} (ha : 0xD000 ≤ a.toNat) :
    mappedByte s a = romRead s.params.sysRom (a.toNat - 0xC000) := by
  have hlc : s.sw.lcRam = false := by rw [hs]; rfl
  have hp : readPlace s.sw a.toNat = .sysRom (a.toNat - 0xC000) := by
    unfold readPlace
    simp only [hlc]
    split_ifs <;> first | omega | rfl
  unfold mappedByte
  rw [hp]

end Sys2Proof.Machine

namespace Sys2Proof.Proofs

open Sys2Proof.Machine

/-- Settles O49: the strobe's address and the four mirrors' by what an access in the page does. -/
theorem hostInputs : Obligations.HostInputs := by
  intro s v
  refine ⟨memRead_io (n := 0x10) (by decide) (by decide) s, memWrite_switch (n := 0x10) (by decide) (by decide) v s,
    ?_, fun a => ⟨memRead_mirrors a s, memWrite_mirrors a v s⟩⟩
  intro e he
  obtain ⟨hn, hflag⟩ : e.1 ∈ inputMirrors ∧ mirrorFlag s.mirrors e.1 = e.2 := by
    fin_cases he <;> exact ⟨by simp [inputMirrors], rfl⟩
  refine ⟨fun h => ?_, fun d rest h => ?_, memWrite_mirror hn v s⟩
  · rw [memRead_mirror hn, drawMirror_nil h, hflag]; rfl
  · rw [memRead_mirror hn, drawMirror_cons h]; rfl

/-- Settles O57: the vector is read from the ROM under the reset mapping. -/
theorem powerOnReset : Obligations.PowerOnReset := by
  intro p
  refine ⟨?_, rfl, rfl, rfl, rfl, rfl, rfl, rfl, rfl, rfl, rfl, rfl, rfl, rfl, fun a => ⟨rfl, rfl⟩⟩
  unfold resetProcedure
  simp only
  rw [memRead16_plain (a := resetVector) (by decide) (by decide),
    mappedByte_atReset (a := resetVector) rfl (by decide), mappedByte_atReset (a := resetVector + 1) rfl (by decide)]
  rfl

end Sys2Proof.Proofs
end

section
/-! SUPPORT. The address map range by range, and a load after a store (spec/20_memory.md R87 to R101, R120). -/

namespace Sys2Proof.Machine

/-! ### The decode of an address (R100, R101) -/

section
variable {sw : Switches} {n : Nat}

theorem readPlace_zp (h : n ≤ 0x01FF) : readPlace sw n = .ram (zpBank sw) n := if_pos h

theorem writePlace_zp (h : n ≤ 0x01FF) : writePlace sw n = .ram (zpBank sw) n := if_pos h

theorem readPlace_body (h : 0x0200 ≤ n ∧ n ≤ 0xBFFF) : readPlace sw n = .ram (bodyBank sw sw.rdMain n) n := by
  unfold readPlace
  rw [if_neg (by omega), if_pos h.2]

theorem writePlace_body (h : 0x0200 ≤ n ∧ n ≤ 0xBFFF) : writePlace sw n = .ram (bodyBank sw sw.wrMain n) n := by
  unfold writePlace
  rw [if_neg (by omega), if_pos h.2]

/-- The ranges of $C100 to $CFFF that read the system ROM under every switch setting (R94). -/
theorem readPlace_firmware (h : (0xC300 ≤ n ∧ n ≤ 0xC3FF) ∨ (0xC800 ≤ n ∧ n ≤ 0xCFFF)) :
    readPlace sw n = .sysRom (n - 0xC000) := by
  unfold readPlace
  rw [if_neg (by omega), if_neg (by omega), if_neg (by omega), if_pos (by omega)]
  rcases h with h | h
  · rw [if_pos h]
  · rw [if_neg (by omega), if_pos h.1]

/-- The slot ROM area: INTCXROM shows the system ROM, else only slot 6 has a PROM (R94). -/
theorem readPlace_slots (h : (0xC100 ≤ n ∧ n ≤ 0xC2FF) ∨ (0xC400 ≤ n ∧ n ≤ 0xC7FF)) :
    readPlace sw n =
      if sw.intCxRom then .sysRom (n - 0xC000)
      else if 0xC600 ≤ n ∧ n ≤ 0xC6FF then .bootProm (n - 0xC600)
      else .nothing := by
  unfold readPlace
  rw [if_neg (by omega), if_neg (by omega), if_neg (by omega), if_pos (by omega), if_neg (by omega),
    if_neg (by omega)]

/-- A write to $C100 to $CFFF is dropped (R95). -/
theorem writePlace_slots (h : 0xC100 ≤ n ∧ n ≤ 0xCFFF) : writePlace sw n = .nothing := by
  unfold writePlace
  rw [if_neg (by omega), if_neg (by omega), if_neg (by omega), if_pos h.2]

theorem readPlace_bankD (h : 0xD000 ≤ n ∧ n ≤ 0xDFFF) :
    readPlace sw n = if sw.lcRam then .ram (zpBank sw) (lcOffset sw n) else .sysRom (n - 0xC000) := by
  unfold readPlace
  rw [if_neg (by omega), if_neg (by omega), if_neg (by omega), if_neg (by omega), if_pos h.2]

theorem writePlace_bankD (h : 0xD000 ≤ n ∧ n ≤ 0xDFFF) :
    writePlace sw n = if sw.lcWrite then .ram (zpBank sw) (lcOffset sw n) else .nothing := by
  unfold writePlace
  rw [if_neg (by omega), if_neg (by omega), if_neg (by omega), if_neg (by omega), if_pos h.2]

theorem readPlace_top (h : 0xE000 ≤ n) :
    readPlace sw n = if sw.lcRam then .ram (zpBank sw) n else .sysRom (n - 0xC000) := by
  unfold readPlace
  rw [if_neg (by omega), if_neg (by omega), if_neg (by omega), if_neg (by omega), if_neg (by omega)]

theorem writePlace_top (h : 0xE000 ≤ n) :
    writePlace sw n = if sw.lcWrite then .ram (zpBank sw) n else .nothing := by
  unfold writePlace
  rw [if_neg (by omega), if_neg (by omega), if_neg (by omega), if_neg (by omega), if_neg (by omega)]

/-- The STORE80 windows as R92 words them. -/
theorem inVideoWindow_iff :
    inVideoWindow sw n = true ↔
      sw.store80 = true ∧ ((0x0400 ≤ n ∧ n ≤ 0x07FF) ∨ (sw.hires = true ∧ 0x2000 ≤ n ∧ n ≤ 0x3FFF)) := by
  simp [inVideoWindow, and_assoc]

theorem bodyBank_window (h : inVideoWindow sw n = true) (mainSelected : Bool) :
    bodyBank sw mainSelected n = if sw.page2 then .aux else .main := if_pos h

theorem bodyBank_outside (h : ¬inVideoWindow sw n = true) (mainSelected : Bool) :
    bodyBank sw mainSelected n = if mainSelected then .main else .aux := if_neg h

end

/-! ### The byte read and the place written, by the place decoded -/

section
variable {s : State} {a : Word} {bank : Bank} {off : Nat}

theorem mappedByte_ram (h : readPlace s.sw a.toNat = .ram bank off) : mappedByte s a = ramRead s bank off := by
  unfold mappedByte
  rw [h]

theorem mappedByte_sysRom (h : readPlace s.sw a.toNat = .sysRom off) :
    mappedByte s a = romRead s.params.sysRom off := by
  unfold mappedByte
  rw [h]

theorem mappedByte_bootProm (h : readPlace s.sw a.toNat = .bootProm off) :
    mappedByte s a = romRead s.params.bootProm off := by
  unfold mappedByte
  rw [h]

theorem mappedByte_nothing (h : readPlace s.sw a.toNat = .nothing) : mappedByte s a = 0 := by
  unfold mappedByte
  rw [h]

theorem storedAt_ram (h : writePlace s.sw a.toNat = .ram bank off) : storedAt s a = some (bank, off) := by
  unfold storedAt
  rw [h]

theorem storedAt_nothing (h : writePlace s.sw a.toNat = .nothing) : storedAt s a = none := by
  unfold storedAt
  rw [h]

theorem storedAt_eq_some : storedAt s a = some (bank, off) ↔ writePlace s.sw a.toNat = .ram bank off := by
  unfold storedAt
  cases writePlace s.sw a.toNat <;> simp

/-- Where LCRAM picks RAM or ROM, as above $CFFF (R96, R98). -/
theorem mappedByte_lcRam {rom : Nat}
    (h : readPlace s.sw a.toNat = if s.sw.lcRam then .ram bank off else .sysRom rom) :
    mappedByte s a = if s.sw.lcRam then ramRead s bank off else romRead s.params.sysRom rom := by
  split_ifs at h ⊢
  · exact mappedByte_ram h
  · exact mappedByte_sysRom h

/-- Where LCWRITE lets a write through, as above $CFFF (R99). -/
theorem storedAt_lcWrite (h : writePlace s.sw a.toNat = if s.sw.lcWrite then .ram bank off else .nothing) :
    storedAt s a = if s.sw.lcWrite then some (bank, off) else none := by
  split_ifs at h ⊢
  · exact storedAt_ram h
  · exact storedAt_nothing h

end

/-! ### A read after a write (R120) -/

/-- Outside the soft-switch page a write sets no switch. -/
theorem memWrite_sw {a : Word} (h : isIo a = false) (v : Byte) (s : State) : (memWrite a v s).sw = s.sw := by
  rw [memWrite_plain h]
  cases storedAt s a <;> simp

/-- After a write, a RAM byte reads as the byte written where the write landed on it, else as before. -/
theorem mappedByte_memWrite_ram {a b : Word} (ha : isIo a = false) {s : State} {bank : Bank} {off : Nat}
    (hb : readPlace s.sw b.toNat = .ram bank off) (v : Byte) :
    mappedByte (memWrite a v s) b = if storedAt s a = some (bank, off) then v else mappedByte s b := by
  rw [mappedByte_ram hb, mappedByte_ram (s := memWrite a v s) (by rw [memWrite_sw ha, hb])]
  exact memWrite_ramStored a v s bank off

/-- A write that does not land on the byte `b` reaches leaves that byte as it was, in RAM or not. -/
theorem mappedByte_memWrite_other {a b : Word} (ha : isIo a = false) {s : State}
    (h : ∀ bank off, writePlace s.sw a.toNat = .ram bank off → readPlace s.sw b.toNat ≠ .ram bank off) (v : Byte) :
    mappedByte (memWrite a v s) b = mappedByte s b := by
  cases hb : readPlace s.sw b.toNat with
  | ram bank off =>
    rw [mappedByte_memWrite_ram ha hb, if_neg fun hs => h bank off (storedAt_eq_some.1 hs) hb]
  | sysRom off | bootProm off | softSwitch | nothing => simp [mappedByte, memWrite_sw ha, hb]

end Sys2Proof.Machine

namespace Sys2Proof.Proofs

open Sys2Proof.Machine

/-- Settles O43: each range by its decode for reads and its decode for writes. -/
theorem addressMap : Obligations.AddressMap := by
  intro s a v n zp window page2 lcoff
  refine ⟨fun h => memRead_plain h s, fun _ => memWrite_ramStored a v s, ?_, ?_, ?_, ?_, ?_, ?_, ?_, ?_⟩
  · intro h
    exact ⟨mappedByte_ram (readPlace_zp h), storedAt_ram (writePlace_zp h)⟩
  · rintro ⟨hlo, hhi, hin⟩
    have hr := readPlace_body (sw := s.sw) ⟨hlo, hhi⟩
    have hw := writePlace_body (sw := s.sw) ⟨hlo, hhi⟩
    rw [bodyBank_window (inVideoWindow_iff.2 hin)] at hr hw
    exact ⟨mappedByte_ram hr, storedAt_ram hw⟩
  · rintro ⟨hlo, hhi, hin⟩
    have hr := readPlace_body (sw := s.sw) ⟨hlo, hhi⟩
    have hw := writePlace_body (sw := s.sw) ⟨hlo, hhi⟩
    rw [bodyBank_outside (mt inVideoWindow_iff.1 hin)] at hr hw
    exact ⟨mappedByte_ram hr, storedAt_ram hw⟩
  · exact fun h => mappedByte_sysRom (readPlace_firmware (.inl h))
  · intro h
    have hp := readPlace_slots (sw := s.sw) h
    split_ifs at hp ⊢
    · exact mappedByte_sysRom hp
    · exact mappedByte_bootProm hp
    · exact mappedByte_nothing hp
  · exact fun h => mappedByte_sysRom (readPlace_firmware (.inr h))
  · intro h
    exact ⟨mappedByte_lcRam (readPlace_bankD h), storedAt_lcWrite (writePlace_bankD h)⟩
  · intro h
    exact ⟨mappedByte_lcRam (readPlace_top h), storedAt_lcWrite (writePlace_top h)⟩

/-- Settles O44: the read returns the mapped byte, which a write changes only where it lands. -/
theorem readAfterWrite : Obligations.ReadAfterWrite := by
  intro s a b v ha hb
  refine ⟨fun bank off hw hr => ?_, fun h => ?_, fun h => ?_⟩
  · rw [memRead_plain hb, mappedByte_memWrite_ram ha hr, if_pos (storedAt_ram hw)]
  · rw [memRead_plain hb, mappedByte_memWrite_other ha h]
  · rw [memWrite_plain ha, storedAt_nothing (writePlace_slots h)]

end Sys2Proof.Proofs
end

section
/-! SUPPORT. The soft switches and the language card, access by access (spec/20_memory.md R102 to R115). -/

namespace Sys2Proof.Machine

/-! ### What the page answers at one address -/

/-- The addresses whose read reports a condition, less $C000 ($C019 reports a mirror) (R107, R110). -/
def ReportsStatus (n : Nat) : Prop := (0x11 ≤ n ∧ n ≤ 0x1F ∧ n ≠ 0x19) ∨ n = 0x7F

/-- The addresses no rule names, less $C000 (R111). -/
def Unlisted (n : Nat) : Prop :=
  (0x20 ≤ n ∧ n ≤ 0x4F) ∨ (0x58 ≤ n ∧ n ≤ 0x5D) ∨ n = 0x60 ∨ (0x64 ≤ n ∧ n ≤ 0x7E) ∨ (0x90 ≤ n ∧ n ≤ 0xFF)

section
variable {n : Nat}

theorem softSwitchRead_status (h : ReportsStatus n) (s : State) :
    softSwitchRead n s = (flag80 (statusFlag s.sw n), s) := by
  unfold ReportsStatus at h
  unfold softSwitchRead
  rw [if_neg (by omega), if_neg (by omega), if_neg (by omega), if_pos (by omega)]

/-- A read of $C001 to $C00F does nothing (D13). -/
theorem softSwitchRead_writeOnly (h : 0x01 ≤ n ∧ n ≤ 0x0F) (s : State) : softSwitchRead n s = (0, s) := by
  unfold softSwitchRead
  repeat rw [if_neg (by omega)]

theorem softSwitchRead_access (h : 0x50 ≤ n ∧ n ≤ 0x5F) (s : State) :
    softSwitchRead n s = (0, { s with sw := setByAccess n s.sw }) := by
  unfold softSwitchRead
  rw [if_neg (by omega), if_neg (by omega), if_neg (by omega), if_neg (by omega), if_pos h]

theorem softSwitchRead_card {x : Nat} (h : x < 16) (s : State) :
    softSwitchRead (0x80 + x) s = (0, { s with sw := languageCard .read x s.sw }) := by
  unfold softSwitchRead
  rw [if_neg (by omega), if_neg (by omega), if_neg (by omega), if_neg (by omega), if_neg (by omega),
    if_pos (by omega), Nat.add_sub_cancel_left]

theorem softSwitchWrite_setting (h : n ≤ 0x0F) (s : State) :
    softSwitchWrite n s = { s with sw := setByWrite n s.sw } := if_pos h

theorem softSwitchWrite_status (h : (0x11 ≤ n ∧ n ≤ 0x1F) ∨ n = 0x7F) (s : State) : softSwitchWrite n s = s := by
  unfold softSwitchWrite
  repeat rw [if_neg (by omega)]

theorem softSwitchWrite_access (h : 0x50 ≤ n ∧ n ≤ 0x5F) (s : State) :
    softSwitchWrite n s = { s with sw := setByAccess n s.sw } := by
  unfold softSwitchWrite
  rw [if_neg (by omega), if_neg (by omega), if_pos h]

theorem softSwitchWrite_card {x : Nat} (h : x < 16) (s : State) :
    softSwitchWrite (0x80 + x) s = { s with sw := languageCard .write x s.sw } := by
  unfold softSwitchWrite
  rw [if_neg (by omega), if_neg (by omega), if_neg (by omega), if_pos (by omega), Nat.add_sub_cancel_left]

/-- $C058 to $C05D set nothing (R111). -/
theorem setByAccess_unlisted (h : 0x58 ≤ n ∧ n ≤ 0x5D) (sw : Switches) : setByAccess n sw = sw := by
  obtain ⟨hlo, hhi⟩ := h
  interval_cases n <;> rfl

theorem Unlisted.lt (h : Unlisted n) : n < 0x100 := by
  unfold Unlisted at h
  omega

theorem softSwitchRead_unlisted (h : Unlisted n) (s : State) : softSwitchRead n s = (0, s) := by
  by_cases ha : 0x58 ≤ n ∧ n ≤ 0x5D
  · rw [softSwitchRead_access (by omega), setByAccess_unlisted ha]
  · unfold Unlisted at h
    unfold softSwitchRead
    repeat rw [if_neg (by omega)]

theorem softSwitchWrite_unlisted (h : Unlisted n) (s : State) : softSwitchWrite n s = s := by
  by_cases ha : 0x58 ≤ n ∧ n ≤ 0x5D
  · rw [softSwitchWrite_access (by omega), setByAccess_unlisted ha]
  · unfold Unlisted at h
    unfold softSwitchWrite
    repeat rw [if_neg (by omega)]

/-! ### The same over the bus -/

/-- A read that does nothing changes the bus lines alone. -/
theorem memRead_quiet {s : State} {v : Byte} (h : n < 0x100) (hd : ¬(0xE0 ≤ n ∧ n ≤ 0xEF))
    (hr : softSwitchRead n s = (v, s)) :
    memRead (BitVec.ofNat 16 (0xC000 + n)) s = (v, withBus s (BitVec.ofNat 16 (0xC000 + n)) v .read) := by
  rw [memRead_io h hd, hr]

/-- A write that does nothing changes the bus lines alone. -/
theorem memWrite_quiet {s : State} (h : n < 0x100) (hd : ¬(0xE0 ≤ n ∧ n ≤ 0xEF)) (v : Byte)
    (hw : softSwitchWrite n s = s) :
    memWrite (BitVec.ofNat 16 (0xC000 + n)) v s = withBus s (BitVec.ofNat 16 (0xC000 + n)) v .write := by
  rw [memWrite_switch h hd, hw]

theorem memRead_status (h : ReportsStatus n) (s : State) :
    memRead (BitVec.ofNat 16 (0xC000 + n)) s =
      (flag80 (statusFlag s.sw n),
        withBus s (BitVec.ofNat 16 (0xC000 + n)) (flag80 (statusFlag s.sw n)) .read) := by
  have hr := softSwitchRead_status h s
  unfold ReportsStatus at h
  exact memRead_quiet (by omega) (by omega) hr

theorem memWrite_setting (h : n ≤ 0x0F) (v : Byte) (s : State) :
    memWrite (BitVec.ofNat 16 (0xC000 + n)) v s =
      { withBus s (BitVec.ofNat 16 (0xC000 + n)) v .write with sw := setByWrite n s.sw } := by
  rw [memWrite_switch (by omega) (by omega), softSwitchWrite_setting h]
  rfl

theorem memRead_access (h : 0x50 ≤ n ∧ n ≤ 0x5F) (s : State) :
    memRead (BitVec.ofNat 16 (0xC000 + n)) s =
      (0, { withBus s (BitVec.ofNat 16 (0xC000 + n)) 0 .read with sw := setByAccess n s.sw }) := by
  rw [memRead_io (by omega) (by omega), softSwitchRead_access h]
  rfl

theorem memWrite_access (h : 0x50 ≤ n ∧ n ≤ 0x5F) (v : Byte) (s : State) :
    memWrite (BitVec.ofNat 16 (0xC000 + n)) v s =
      { withBus s (BitVec.ofNat 16 (0xC000 + n)) v .write with sw := setByAccess n s.sw } := by
  rw [memWrite_switch (by omega) (by omega), softSwitchWrite_access h]
  rfl

end

/-! ### The language card (R112 to R115) -/

section
variable {x : Nat} (h : x < 16)
include h

theorem memRead_card (s : State) :
    memRead (BitVec.ofNat 16 (0xC080 + x)) s =
      (0, { withBus s (BitVec.ofNat 16 (0xC080 + x)) 0 .read with sw := languageCard .read x s.sw }) := by
  have hr := memRead_io (n := 0x80 + x) (by omega) (by omega) s
  rwa [softSwitchRead_card h, ← Nat.add_assoc] at hr

theorem memWrite_card (v : Byte) (s : State) :
    memWrite (BitVec.ofNat 16 (0xC080 + x)) v s =
      { withBus s (BitVec.ofNat 16 (0xC080 + x)) v .write with sw := languageCard .write x s.sw } := by
  have hw := memWrite_switch (n := 0x80 + x) (by omega) (by omega) v s
  rwa [softSwitchWrite_card h, ← Nat.add_assoc] at hw

/-- Bit 3 of the address picks the bank: clear in the lower eight (R112). -/
theorem not_testBit_three : (!x.testBit 3) = decide (x < 8) := by
  rw [Nat.testBit_eq_decide_div_mod_eq, ← decide_not, decide_eq_decide]
  omega

end

/-- The pre-arm sub-cases are the odd addresses (R113). -/
theorem preArm_iff_odd (x : Nat) : (decide (x % 4 = 1) || decide (x % 4 = 3)) = decide (x % 2 = 1) := by
  rw [← Bool.decide_or, decide_eq_decide]
  omega

/-- What a read of one of the sixteen addresses sets (R112 to R115). -/
theorem languageCard_read {x : Nat} (h : x < 16) (sw : Switches) :
    languageCard .read x sw =
      { sw with
        lcBnk2 := decide (x < 8)
        lcRam := decide (x % 4 = 0 ∨ x % 4 = 3)
        lcWrite := decide (x % 2 = 1) && sw.preWrite
        preWrite := decide (x % 2 = 1) } := by
  unfold languageCard
  simp only [preArm_iff_odd, not_testBit_three h, Bool.decide_or]
  by_cases ho : x % 2 = 1 <;> simp [ho]

/-- What a write there sets: LCWRITE is kept or cleared, never set (R113, R114). -/
theorem languageCard_write {x : Nat} (h : x < 16) (sw : Switches) :
    languageCard .write x sw =
      { sw with
        lcBnk2 := decide (x < 8)
        lcRam := decide (x % 4 = 0 ∨ x % 4 = 3)
        lcWrite := decide (x % 2 = 1) && sw.lcWrite
        preWrite := false } := by
  unfold languageCard
  simp only [preArm_iff_odd, not_testBit_three h, Bool.decide_or]
  by_cases ho : x % 2 = 1 <;> simp [ho]

/-- A read of an odd address arms the latch, and sets LCWRITE if the latch was armed (R113). -/
theorem memRead_card_odd {x : Nat} (h : x < 16) (ho : x % 2 = 1) (s : State) :
    (memRead (BitVec.ofNat 16 (0xC080 + x)) s).2.sw.lcWrite = s.sw.preWrite ∧
      (memRead (BitVec.ofNat 16 (0xC080 + x)) s).2.sw.preWrite = true := by
  rw [memRead_card h, languageCard_read h]
  simp [ho]

/-- A write there disarms the latch and leaves LCWRITE (R113). -/
theorem memWrite_card_odd {x : Nat} (h : x < 16) (ho : x % 2 = 1) (v : Byte) (s : State) :
    (memWrite (BitVec.ofNat 16 (0xC080 + x)) v s).sw.lcWrite = s.sw.lcWrite ∧
      (memWrite (BitVec.ofNat 16 (0xC080 + x)) v s).sw.preWrite = false := by
  rw [memWrite_card h, languageCard_write h]
  simp [ho]

end Sys2Proof.Machine

namespace Sys2Proof.Proofs

open Sys2Proof.Machine

/-- Settles O45: the latch, the conditions and the unlisted addresses, each by what the page answers there. -/
theorem statusReads : Obligations.StatusReads := by
  intro s v
  refine ⟨memRead_quiet (n := 0) (by decide) (by decide) rfl, fun e he => ?_, fun hdraws => ?_, fun k hlo hhi => ?_,
    fun k hk => ?_⟩
  · obtain ⟨hn, hflag⟩ : ReportsStatus e.1 ∧ statusFlag s.sw e.1 = e.2 := by
      fin_cases he <;> exact ⟨by simp [ReportsStatus], rfl⟩
    exact hflag ▸ memRead_status hn s
  · have hm := memRead_mirror (n := 0x19) (by simp [inputMirrors]) s
    rwa [drawMirror_nil hdraws] at hm
  · exact memWrite_quiet (by omega) (by omega) v (softSwitchWrite_status (.inl ⟨hlo, hhi⟩) s)
  · have hu : Unlisted k := hk
    have hr := softSwitchRead_unlisted hu s
    have hw := softSwitchWrite_unlisted hu s
    refine ⟨(memCtlRead_io hu.lt s).trans hr, (memCtlWrite_io hu.lt v s).trans hw, fun hd => ?_⟩
    exact ⟨memRead_quiet hu.lt (by omega) hr, memWrite_quiet hu.lt (by omega) v hw⟩

/-- Settles O46: each listed address sets the switch that `setByWrite` or `setByAccess` names. -/
theorem switchAccesses : Obligations.SwitchAccesses := by
  intro s v
  refine ⟨fun e he => ?_, fun k hlo hhi => ?_, fun e he => ?_, ?_, ?_⟩
  · obtain ⟨hn, hsw⟩ : e.1 ≤ 0x0F ∧ setByWrite e.1 s.sw = e.2 := by
      fin_cases he <;> exact ⟨by simp, rfl⟩
    exact hsw ▸ memWrite_setting hn v s
  · exact memRead_quiet (by omega) (by omega) (softSwitchRead_writeOnly ⟨hlo, hhi⟩ s)
  · obtain ⟨hn, hsw⟩ : (0x50 ≤ e.1 ∧ e.1 ≤ 0x5F) ∧ setByAccess e.1 s.sw = e.2 := by
      fin_cases he <;> exact ⟨by simp, rfl⟩
    exact hsw ▸ ⟨memRead_access hn s, memWrite_access hn v s⟩
  · exact memRead_status (n := 0x7F) (.inr rfl) s
  · exact memWrite_quiet (n := 0x7F) (by decide) (by decide) v (softSwitchWrite_status (.inr rfl) s)

/-- Settles O47: the second read moves the latch that the first one armed. -/
theorem twoReadHandshake : Obligations.TwoReadHandshake := by
  intro s v x y hx hy ox oy r w
  obtain ⟨hrw, hrp⟩ : r.sw.lcWrite = s.sw.preWrite ∧ r.sw.preWrite = true := memRead_card_odd hx ox s
  obtain ⟨hww, hwp⟩ := memWrite_card_odd hx ox v s
  exact ⟨hrw, hrp, hww, hwp, (memRead_card_odd hy oy r).1.trans hrp, hrw.trans⟩

/-- Settles O48: the access over the bus, then the card's own table. -/
theorem languageCardTable : Obligations.LanguageCardTable := by
  intro s v x hx a bnk2 ram
  exact ⟨languageCard_read hx s.sw ▸ memRead_card hx s, languageCard_write hx s.sw ▸ memWrite_card hx v s⟩

end Sys2Proof.Proofs
end

section
/-! SUPPORT. The decoder and the encoder as two readings of one opcode map (spec/30_encoding.md R140 to R158). -/

namespace Sys2Proof

open Sys2Proof.Machine

/-! ### One form: its instructions and their bytes -/

/-- The length of a form's instructions (R140). -/
def Form.size : Form → Nat
  | .none _ => 1
  | .skip _ | .byte _ => 2
  | .word _ => 3

/-- The bytes of the instruction that `Form.instr` makes of the same two operand bytes, under the opcode `op`. -/
def Form.bytes (op b1 b2 : Byte) (f : Form) : List Byte := [op, b1, b2].take f.size

/-- Under the opcode `op`, the encoder gives the form's instructions the bytes that R142 gives them. -/
def Form.Encodes (op : Byte) : Form → Prop
  | .none i => encode i = [op]
  | .skip g | .byte g => (fun b => encode (g b)) = fun b => [op, b]
  | .word g => (fun w => encode (g w)) = fun w => [op, loByte w, hiByte w]

theorem Form.Encodes.encode_instr {op : Byte} {f : Form} (h : f.Encodes op) (b1 b2 : Byte) :
    encode (f.instr b1 b2) = f.bytes op b1 b2 := by
  cases f with
  | none i => exact h
  | skip g | byte g => exact congrFun h b1
  | word g =>
    have hw : encode (g (wordOf b2 b1)) = [op, loByte (wordOf b2 b1), hiByte (wordOf b2 b1)] := congrFun h _
    rwa [loByte_wordOf, hiByte_wordOf] at hw

theorem Form.instr_word {f : Form} {g : Word → Instr} (h : f = .word g) (w : Word) :
    f.instr (loByte w) (hiByte w) = g w := by
  rw [h, Form.instr, wordOf_hiByte_loByte]

/-! ### The opcode map (R151) -/

/-- The encoder agrees with a part of the map that begins at opcode `n`. -/
def EncodesFrom (n : Nat) : List Form → Prop
  | [] => True
  | f :: fs => f.Encodes (BitVec.ofNat 8 n) ∧ EncodesFrom (n + 1) fs

theorem EncodesFrom.append {n m : Nat} {fs gs : List Form} (hf : EncodesFrom n fs) (hm : fs.length = m)
    (hg : EncodesFrom (n + m) gs) : EncodesFrom n (fs ++ gs) := by
  subst hm
  induction fs generalizing n with
  | nil => exact hg
  | cons f fs ih =>
    rw [List.length_cons, Nat.add_comm fs.length, ← Nat.add_assoc] at hg
    exact ⟨hf.1, ih hf.2 hg⟩

theorem EncodesFrom.getElem {n : Nat} {fs : List Form} (h : EncodesFrom n fs) {k : Nat} (hk : k < fs.length) :
    fs[k].Encodes (BitVec.ofNat 8 (n + k)) := by
  induction fs generalizing n k with
  | nil => exact absurd hk (Nat.not_lt_zero k)
  | cons f fs ih =>
    cases k with
    | zero => exact h.1
    | succ k =>
      have e : n + 1 + k = n + (k + 1) := by omega
      exact e ▸ ih h.2 (Nat.lt_of_succ_lt_succ hk)

/-- The encoder agrees with the map, row by row and opcode by opcode. -/
theorem opcodeMap_encodes : EncodesFrom 0 opcodeMap := by
  unfold opcodeMap
  simp only [List.append_assoc]
  repeat' refine .append (m := 16) ?_ (by rfl) ?_
  all_goals exact ⟨rfl, rfl, rfl, rfl, rfl, rfl, rfl, rfl, rfl, rfl, rfl, rfl, rfl, rfl, rfl, rfl, trivial⟩

theorem opForm_encodes (op : Byte) : (opForm op).Encodes op := by
  have h := opcodeMap_encodes.getElem (k := op.toNat) (by rw [opcodeMap_length]; exact op.isLt)
  rwa [Nat.zero_add, BitVec.ofNat_toNat, BitVec.setWidth_eq] at h

theorem encode_instr (op b1 b2 : Byte) : encode ((opForm op).instr b1 b2) = (opForm op).bytes op b1 b2 :=
  (opForm_encodes op).encode_instr b1 b2

theorem opcodeMap_sizes : opcodeMap.map Form.size = opTable.map fun r => r.cost.size := by
  simp only [opcodeMap, opTable, List.map_append]
  rfl

/-- The opcode table gives each opcode the length of its form (R141, R151). -/
theorem opForm_size (op : Byte) : (opForm op).size = (opRow op).cost.size := by
  have h := List.getElem_of_eq opcodeMap_sizes (i := op.toNat)
    (by rw [List.length_map, opcodeMap_length]; exact op.isLt)
  rwa [List.getElem_map, List.getElem_map] at h

/-- Every instruction is made by its opcode's form: a one-byte instruction from any two operand bytes, one with an
operand byte from that byte, one with an operand word from its halves. -/
theorem Instr.exists_operands (i : Instr) : ∃ b1 b2, (opForm i.opcode).instr b1 b2 = i := by
  cases i with
  | tax | tay | txa | tya | tsx | txs | inx | iny | dex | dey | aslAcc | lsrAcc | rolAcc | rorAcc | rts | pha
  | pla | php | plp | clc | sec | cli | sei | cld | sed | clv | rti | nop | kil02 | kil12 | nop1A | kil22 | kil32
  | nop3A | kil42 | kil52 | nop5A | kil62 | kil72 | nop7A | kil92 | kilB2 | kilD2 | nopDA | kilF2 | nopFA =>
    exact ⟨0, 0, rfl⟩
  | ldaAbs w | ldaAbx w | ldaAby w | ldxAbs w | ldxAby w | ldyAbs w | ldyAbx w | staAbs w | staAbx w | staAby w
  | stxAbs w | styAbs w | adcAbs w | adcAbx w | adcAby w | sbcAbs w | sbcAbx w | sbcAby w | andAbs w | andAbx w
  | andAby w | oraAbs w | oraAbx w | oraAby w | eorAbs w | eorAbx w | eorAby w | cmpAbs w | cmpAbx w | cmpAby w
  | cpxAbs w | cpyAbs w | bitAbs w | incAbs w | incAbx w | decAbs w | decAbx w | aslAbs w | aslAbx w | lsrAbs w
  | lsrAbx w | rolAbs w | rolAbx w | rorAbs w | rorAbx w | jmpAbs w | jmpInd w | jsr w | nop0C w | slo0F w
  | slo1B w | nop1C w | slo1F w | rla2F w | rla3B w | nop3C w | rla3F w | sre4F w | sre5B w | nop5C w | sre5F w
  | rra6F w | rra7B w | nop7C w | rra7F w | sax8F w | tas9B w | shy9C w | shx9E w | ahx9F w | laxAF w | lasBB w
  | laxBF w | dcpCF w | dcpDB w | nopDC w | dcpDF w | iscEF w | iscFB w | nopFC w | iscFF w =>
    exact ⟨loByte w, hiByte w, Form.instr_word rfl w⟩
  | _ b => exact ⟨b, 0, rfl⟩

/-! ### The decoder -/

/-- Decoding reads a form's bytes and no more (R143). -/
theorem decode_bytes (op b1 b2 : Byte) (rest : List Byte) :
    decode ((opForm op).bytes op b1 b2 ++ rest) = .ok ((opForm op).instr b1 b2, rest) := by
  cases h : opForm op <;> simp [Form.bytes, Form.size, decode, Form.instr, h]

/-- Whatever decodes begins with a form's bytes. -/
theorem decode_eq_ok {bytes : List Byte} {i : Instr} {rest : List Byte} (h : decode bytes = .ok (i, rest)) :
    ∃ op b1 b2, bytes = (opForm op).bytes op b1 b2 ++ rest ∧ i = (opForm op).instr b1 b2 := by
  cases bytes with
  | nil => cases h
  | cons op tail =>
    refine ⟨op, ?_⟩
    cases hf : opForm op with
    | none j =>
      simp only [decode, hf] at h
      cases h
      exact ⟨0, 0, rfl, rfl⟩
    | skip g | byte g =>
      simp only [decode, hf] at h
      cases tail with
      | nil => cases h
      | cons b tail => cases h; exact ⟨b, 0, rfl, rfl⟩
    | word g =>
      simp only [decode, hf] at h
      match tail, h with
      | lo :: hi :: tail, h => cases h; exact ⟨lo, hi, rfl, rfl⟩

/-- A byte list that is long enough is the form's bytes and the rest after its size. -/
theorem Form.bytes_append_drop (f : Form) (op b1 b2 : Byte) (rest : List Byte) :
    f.bytes op b1 b2 ++ (op :: b1 :: b2 :: rest).drop f.size = op :: b1 :: b2 :: rest := by
  cases f <;> rfl

theorem opcode_instr (op b1 b2 : Byte) : ((opForm op).instr b1 b2).opcode = op := by
  rw [Instr.opcode, encode_instr]
  cases opForm op <;> rfl

/-- An instruction has one, two or three bytes (R140, R156). -/
theorem Form.size_bounds (f : Form) : 1 ≤ f.size ∧ f.size ≤ 3 := by
  cases f <;> simp [Form.size]

end Sys2Proof

namespace Sys2Proof.Proofs

open Sys2Proof.Machine

/-- Settles O1: an instruction is made by its opcode's form, whose bytes decode to it. -/
theorem decodeOfEncode : Obligations.DecodeOfEncode := by
  intro i rest
  obtain ⟨b1, b2, hi⟩ := i.exists_operands
  rw [← hi, encode_instr, decode_bytes]

/-- Settles O2: what decodes begins with a form's bytes, which the encoder gives back. -/
theorem encodeOfDecode : Obligations.EncodeOfDecode := by
  intro bytes i rest h
  obtain ⟨op, b1, b2, hbytes, rfl⟩ := decode_eq_ok h
  rw [encode_instr, hbytes]

/-- Settles O3: the opcode's form makes the instruction, and its length is the table row's. -/
theorem everyOpcodeDecodes : Obligations.EveryOpcodeDecodes := by
  intro op b1 b2 rest
  rw [← opForm_size]
  refine ⟨(opForm op).instr b1 b2, ?_, opcode_instr op b1 b2, (opForm op).size_bounds⟩
  have h := decode_bytes op b1 b2 ((op :: b1 :: b2 :: rest).drop (opForm op).size)
  rwa [Form.bytes_append_drop] at h

/-- Settles O4: the words, one after the other, through the decoder. -/
theorem writtenOutWords : Obligations.WrittenOutWords :=
  ⟨rfl, rfl, rfl, rfl, rfl, rfl, rfl, rfl, rfl, rfl, rfl, rfl, rfl, rfl⟩

end Sys2Proof.Proofs
end

section
/-! SUPPORT. The fetch away from the soft-switch page, and the effective address mode by mode
(spec/30_encoding.md R141 to R147). -/

namespace Sys2Proof.Machine

/-! ### The fetch -/

section
variable {s : State} (h0 : isIo s.cpu.pc = false) (h1 : isIo (s.cpu.pc + 1) = false)
  (h2 : isIo (s.cpu.pc + 2) = false)
include h0 h1 h2

/-- Code outside the soft-switch page is fetched without touching a device (R86). -/
theorem fetch_devices : SameDevices s (fetch s).2 := by
  have d0 := memRead_devices h0 s
  have d1 := d0.trans (memRead_devices h1 _)
  have d2 := d1.trans (memRead_devices h2 _)
  unfold fetch
  dsimp only
  split
  · exact d0
  · exact d1
  · exact d2

/-- The bytes fetched there are the mapped ones (R100). -/
theorem codeBytes_plain :
    codeBytes s = [mappedByte s s.cpu.pc, mappedByte s (s.cpu.pc + 1), mappedByte s (s.cpu.pc + 2)] := by
  simp only [codeBytes, memRead_plain h0, memRead_plain h1, memRead_plain h2, mappedByte_withBus]

end

/-! ### Addresses as numbers -/

theorem zext16_add_toNat (b x : Byte) : (zext16 (b + x)).toNat = (b.toNat + x.toNat) % 256 := by
  rw [zext16_toNat, BitVec.toNat_add]

theorem add_zext16_toNat (w : Word) (x : Byte) : (w + zext16 x).toNat = (w.toNat + x.toNat) % 65536 := by
  rw [BitVec.toNat_add, zext16_toNat]

/-- The next address within the page (R83). -/
theorem nextInPage_eq (a : Word) : nextInPage a = BitVec.ofNat 16 (a.toNat / 256 * 256 + (a.toNat + 1) % 256) := by
  have ha := a.isLt
  apply BitVec.eq_of_toNat_eq
  rw [nextInPage, wordOf_toNat, hiByte_toNat, BitVec.toNat_add, loByte_toNat, BitVec.toNat_ofNat,
    show (1 : Byte).toNat = 1 from rfl]
  omega

theorem add_sext16_eq (a : Word) (b : Byte) : a + 2 + sext16 b = BitVec.ofInt 16 (a.toNat + 2 + b.toInt) := by
  rw [BitVec.ofInt_add, BitVec.ofInt_add, BitVec.ofInt_natCast, BitVec.ofNat_toNat, BitVec.setWidth_eq]
  rfl

/-- A pointer outside the soft-switch page: both bytes are the mapped ones, the second from the same page (R83). -/
theorem memReadNoWrap_plain_fst {a : Word} (h : isIo a = false) (s : State) :
    (memReadNoWrap a s).1 = wordOf (mappedByte s (nextInPage a)) (mappedByte s a) := by
  have hn : isIo (nextInPage a) = false := by rw [isIo_nextInPage, h]
  simp only [memReadNoWrap, memRead_plain h, memRead_plain hn, mappedByte_withBus]

/-! ### The modes (R144) -/

/-- A zero-page pointer as a number: its second byte is from within zero page (R83). -/
theorem memReadNoWrap_zeroPage_toNat (z : Byte) (s : State) :
    (memReadNoWrap (zext16 z) s).1.toNat =
      (ramRead s (zpBank s.sw) ((z.toNat + 1) % 256)).toNat * 256 + (ramRead s (zpBank s.sw) z.toNat).toNat := by
  rw [memReadNoWrap_zeroPage, wordOf_toNat, BitVec.toNat_add]
  rfl

section
variable (b : Byte) (s : State)

theorem resolve_zeroPage_al : (resolve .zeroPage (zext16 b) s).al = zext16 b := by
  simp only [resolve, loByte_zext16]

theorem resolve_zeroPageX_al : (resolve .zeroPageX (zext16 b) s).al = zext16 (b + s.cpu.x) := by
  simp only [resolve, loByte_zext16]

theorem resolve_zeroPageY_al : (resolve .zeroPageY (zext16 b) s).al = zext16 (b + s.cpu.y) := by
  simp only [resolve, loByte_zext16]

theorem resolve_indexedIndirect_al :
    (resolve .indexedIndirect (zext16 b) s).al = (memReadNoWrap (zext16 (b + s.cpu.x)) s).1 := by
  simp only [resolve, loByte_zext16]

theorem resolve_indirectIndexed_al :
    (resolve .indirectIndexed (zext16 b) s).al = (memReadNoWrap (zext16 b) s).1 + zext16 s.cpu.y := by
  simp only [resolve, loByte_zext16]

theorem resolve_indirectIndexed_paged :
    (resolve .indirectIndexed (zext16 b) s).paged =
      pageDiffers (resolve .indirectIndexed (zext16 b) s).al (memReadNoWrap (zext16 b) s).1 := by
  simp only [resolve, loByte_zext16]

theorem resolve_relative_al : (resolve .relative (zext16 b) s).al = s.cpu.pc + 2 + sext16 b := by
  simp only [resolve, loByte_zext16]

end

end Sys2Proof.Machine

namespace Sys2Proof.Proofs

open Sys2Proof.Machine

/-- Settles O5: what the decoder reads at PC is what the fetch yields. -/
theorem stepRunsTheDecodedInstruction : Obligations.StepRunsTheDecodedInstruction := by
  intro s i rest hi
  obtain ⟨tail, hf⟩ := decode_codeBytes (beforeTick s)
  obtain rfl : (fetch (beforeTick s)).1 = i := by
    rw [hf] at hi
    cases hi
    rfl
  obtain ⟨hb, hm, hx⟩ := fetch_frame (beforeTick s)
  refine ⟨rfl, hb, .of_eq hm hx, fun h => ?_⟩
  have h0 : isIo (beforeTick s).cpu.pc = false := by simpa using h 0 (by decide)
  have h1 := h 1 (by decide)
  have h2 := h 2 (by decide)
  exact ⟨fetch_devices h0 h1 h2, codeBytes_plain h0 h1 h2⟩

/-- Settles O6, mode by mode. -/
theorem effectiveAddresses : Obligations.EffectiveAddresses := by
  intro c b w s
  refine ⟨fun m => prepare_cpu m c w s, fun m hm => ?_, ?_, ?_, ?_, ?_, rfl, ?_, ?_, ?_, ?_, ?_, ?_, fun h => ?_,
    ?_⟩
  · fin_cases hm <;> rfl
  · exact BitVec.toNat_add s.cpu.pc 1
  · rw [resolve_zeroPage_al, zext16_toNat]
  · rw [resolve_zeroPageX_al, zext16_add_toNat]
  · rw [resolve_zeroPageY_al, zext16_add_toNat]
  · exact add_zext16_toNat w s.cpu.x
  · exact pageDiffers_eq _ w
  · exact add_zext16_toNat w s.cpu.y
  · exact pageDiffers_eq _ w
  · rw [resolve_indexedIndirect_al, memReadNoWrap_zeroPage_toNat, BitVec.toNat_add, Nat.mod_add_mod]
  · intro base
    have hbase : (memReadNoWrap (zext16 b) s).1.toNat = base := memReadNoWrap_zeroPage_toNat b s
    constructor
    · rw [resolve_indirectIndexed_al, add_zext16_toNat, hbase]
    · rw [resolve_indirectIndexed_paged, pageDiffers_eq, hbase]
  · rw [← nextInPage_eq, ← wordOf_toNat, ← memReadNoWrap_plain_fst h]
    rfl
  · rw [resolve_relative_al, add_sext16_eq]

end Sys2Proof.Proofs
end

section
/-! SUPPORT. The loads and the stores form by form, and the one-byte register instructions
(spec/40_load_store_transfer.md R200 to R211). -/

namespace Sys2Proof.Machine

@[simp] theorem Shape.ready_p (f : Shape) (s : State) : (f.ready s).cpu.p = s.cpu.p :=
  prepare_p f.mode f.cost f.operand s

theorem Shape.ready_reg (f : Shape) (s : State) (r : Reg) : r.get (f.ready s).cpu = r.get s.cpu :=
  prepare_reg f.mode f.cost f.operand s r

/-! ### Read forms -/

/-- A read form answers its operation applied to the byte read at `al` (R148). -/
theorem Shape.ReadsWith.exec_eq {g : Byte → Cpu → Cpu} {f : Shape} (h : f.ReadsWith g) (s : State) :
    exec f.instr s = .next (withCpu (f.read s).2 (g (f.read s).1 (f.ready s).cpu)) := by
  obtain ⟨-, he⟩ := h
  rw [he, readOp_eq, Shape.read, Shape.ready]

/-- Every form in one line of the table of read instructions. -/
theorem readTable_exec {b : Byte} {w : Word} {g : Byte → Cpu → Cpu} {forms : List Shape}
    (he : (g, forms) ∈ readTable b w) (s : State) :
    ∀ f ∈ forms, exec f.instr s = .next (withCpu (f.read s).2 (g (f.read s).1 (f.ready s).cpu)) :=
  fun f hf => (readTable_readsWith b w _ he f hf).exec_eq s

/-! ### Write forms -/

/-- The form is a write instruction that stores register `r`, in a mode other than Indirect (R148). -/
def Shape.Stores (r : Reg) (f : Shape) : Prop :=
  f.mode ≠ .indirect ∧ ∀ s, exec f.instr s = .next (writeOp f.mode f.cost f.operand (fun c => r.get c) s)

/-- The memory forms that store a register; none stores SP (R150). -/
def storeForms (b : Byte) (w : Word) : Reg → List Shape
  | .A => Forms.sta b w
  | .X => Forms.stx b w
  | .Y => Forms.sty b w
  | .SP => []

theorem storeForms_stores {b : Byte} {w : Word} {r : Reg} {f : Shape} (hf : f ∈ storeForms b w r) : f.Stores r := by
  cases r with
  | A | X | Y => fin_cases hf <;> exact ⟨nofun, fun _ => rfl⟩
  | SP => cases hf

section
variable {r : Reg} {f : Shape}

/-- A store answers one write, at `al`, of the register as it was before the tick (R203 to R205). -/
theorem Shape.Stores.exec_eq (h : f.Stores r) (s : State) :
    exec f.instr s = .next (memWrite (f.ready s).cpu.al (r.get s.cpu) (f.ready s)) := by
  obtain ⟨-, he⟩ := h
  rw [he, ← f.ready_reg s r]
  rfl

/-- What a store leaves alone, and the byte it stores (R29, R101). -/
theorem Shape.Stores.frame (h : f.Stores r) {s t : State} (ht : exec f.instr s = .next t) :
    Leaves [.A, .X, .Y, .SP] allFlags s t ∧
      RamStored (storedAt (f.ready s) (f.ready s).cpu.al) (r.get s.cpu) s t ∧
      (isIo (f.ready s).cpu.al = false → SameDevices s t) := by
  obtain ⟨hm, he⟩ := h
  rw [he] at ht
  cases ht
  rw [← f.ready_reg s r]
  exact writeOp_frame hm f.cost f.operand s fun c => r.get c

end

end Sys2Proof.Machine

namespace Sys2Proof.Proofs

open Sys2Proof.Machine

/-- Settles O13: the memory forms by what a read form answers, P being still as it was; the Immediate forms resolve
without an access. -/
theorem loadResult : Obligations.LoadResult := by
  intro b w s
  -- the lines of the table, counted from 0
  have line (k : Fin 12) : (readTable b w)[k] ∈ readTable b w := List.getElem_mem k.isLt
  refine ⟨fun f hf => ?_, fun f hf => ?_, fun f hf => ?_, rfl, rfl, rfl⟩
  · rw [readTable_exec (line 0) s f hf, Cpu.loadA, f.ready_p]
  · rw [readTable_exec (line 1) s f hf, Cpu.loadX, f.ready_p]
  · rw [readTable_exec (line 2) s f hf, Cpu.loadY, f.ready_p]

/-- Settles O14: the register stored is as it was before the tick. -/
theorem storeResult : Obligations.StoreResult := by
  intro b w s
  exact ⟨fun _ hf => (storeForms_stores (r := .A) hf).exec_eq s,
    fun _ hf => (storeForms_stores (r := .X) hf).exec_eq s,
    fun _ hf => (storeForms_stores (r := .Y) hf).exec_eq s⟩

/-- Settles O38, from the frame of a store of any register. -/
theorem frameOfStores : Obligations.FrameOfStores := by
  intro b w s t
  have kept {r : Reg} {f : Shape} (hf : f ∈ storeForms b w r) (ht : exec f.instr s = .next t) :
      Leaves [.A, .X, .Y, .SP] allFlags s t ∧ (isIo (f.ready s).cpu.al = false → SameDevices s t) := by
    obtain ⟨hl, -, hd⟩ := (storeForms_stores hf).frame ht
    exact ⟨hl, hd⟩
  have stored {r : Reg} : ∀ f ∈ storeForms b w r, exec f.instr s = .next t →
      RamStored (storedAt (f.ready s) (f.ready s).cpu.al) (r.get s.cpu) s t := by
    intro f hf ht
    obtain ⟨-, hr, -⟩ := (storeForms_stores hf).frame ht
    exact hr
  refine ⟨fun f hf => ?_, stored (r := .A), stored (r := .X), stored (r := .Y)⟩
  rcases List.mem_append.1 hf with hf | hy
  · rcases List.mem_append.1 hf with ha | hx
    · exact kept (r := .A) ha
    · exact kept (r := .X) hx
  · exact kept (r := .Y) hy

/-- Settles O15: Implied mode resolves without an access, so each is its operation on the registers of
`oneByteReady`. -/
theorem registerResult : Obligations.RegisterResult :=
  fun _ => ⟨rfl, rfl, rfl, rfl, rfl, rfl, rfl, rfl, rfl, rfl, rfl⟩

end Sys2Proof.Proofs
end

section
/-! SUPPORT. The results and flags of ADC, SBC, the compares and BIT as computations on the registers
(spec/41_arithmetic_logic.md R221 to R231). -/

namespace Sys2Proof.Machine

/-! ### ADC (R223) -/

/-- The sign test of R223 on the top bits: an exclusive or has its top bit clear where the two signs agree. -/
theorem overflowTest_eq (a m r : Byte) :
    (((a ^^^ m) &&& 0x80 == 0) && ((a ^^^ r) &&& 0x80 != 0)) = (a.msb == m.msb && a.msb != r.msb) := by
  have hm : ((a ^^^ m) &&& 0x80 == 0) = !(a ^^^ m).msb := signTest_zero _
  have hr : ((a ^^^ r) &&& 0x80 != 0) = (a ^^^ r).msb := signTest_ne _
  rw [hm, hr, BitVec.msb_xor, BitVec.msb_xor]
  cases a.msb <;> simp

/-- ADC of `m` on the registers alone, whatever the rest of the state is. -/
theorem adc_addedWithCarry (m : Byte) (c : Cpu) (r : State) : AddedWithCarry m c r (withCpu r (c.adc m)) := by
  refine ⟨rfl, ?_, ?_, ?_, ?_, (adc_keeps m).flag c⟩
  · simp [Cpu.adc, adcResult]
  · simp only [withCpu_cpu, Cpu.adc, adcResult, getFlag_setNZ, getFlag_setFlag, ← overflowTest_eq]
    rfl
  · simp [Cpu.adc, adcResult, BitVec.msb_eq_getLsbD_last]
  · simp [Cpu.adc, adcResult]

/-- The V test is the exact signed sum's leaving -128 to 127 (R221). -/
theorem signTest_signedSum (a m : Byte) {k : Nat} (hk : k ≤ 1) :
    (a.msb == m.msb && a.msb != (BitVec.ofNat 8 (a.toNat + m.toNat + k)).msb) =
      decide (a.toInt + m.toInt + k < -128 ∨ 127 < a.toInt + m.toInt + k) := by
  have ha := a.isLt
  have hm := m.isLt
  simp only [BitVec.msb_eq_decide, BitVec.toInt_eq_toNat_cond, BitVec.toNat_ofNat]
  rw [Bool.eq_iff_iff]
  simp only [Bool.and_eq_true, beq_iff_eq, bne_iff_ne, ne_eq, decide_eq_true_eq, decide_eq_decide]
  omega

/-- The truncated unsigned sum is the truncated signed sum (R221). -/
theorem ofNat_sum_eq_ofInt (a m : Byte) (k : Nat) :
    BitVec.ofNat 8 (a.toNat + m.toNat + k) = BitVec.ofInt 8 (a.toInt + m.toInt + k) := by
  simp only [BitVec.ofNat_add, BitVec.ofInt_add, BitVec.ofNat_toNat, BitVec.setWidth_eq, BitVec.ofInt_toInt,
    BitVec.ofInt_natCast]

theorem carryIn_le_one (p : Byte) : carryIn p ≤ 1 := by
  rcases carryIn_cases p with h | h <;> omega

/-- After ADC, V and A are those of the exact signed sum. -/
theorem AddedWithCarry.signed {m : Byte} {c : Cpu} {r t : State} (h : AddedWithCarry m c r t) :
    getFlag t.cpu.p .V =
        decide (c.a.toInt + m.toInt + carryIn c.p < -128 ∨ 127 < c.a.toInt + m.toInt + carryIn c.p) ∧
      t.cpu.a = BitVec.ofInt 8 (c.a.toInt + m.toInt + carryIn c.p) := by
  obtain ⟨ht, -, hv, -⟩ := h
  have ha : t.cpu.a = BitVec.ofNat 8 (c.a.toNat + m.toNat + carryIn c.p) := by rw [ht]; rfl
  rw [hv, ha, signTest_signedSum _ _ (carryIn_le_one _)]
  exact ⟨rfl, ofNat_sum_eq_ofInt _ _ _⟩

/-! ### SBC is ADC of the complement (R224) -/

theorem toInt_not_byte (m : Byte) : (~~~m).toInt = -m.toInt - 1 := by
  have hm := m.isLt
  simp only [BitVec.toInt_eq_toNat_cond, BitVec.toNat_not]
  omega

/-- SBC's exact signed result is ADC's of the complement (R221). -/
theorem signedSum_not (a m : Byte) (k : Nat) :
    a.toInt + (~~~m).toInt + k = a.toInt - m.toInt - (1 - k : Int) := by
  rw [toInt_not_byte]
  omega

/-- A - M - (1 - C) is 256 less than A + ~M + C. -/
theorem sum_not (a m : Byte) (k : Nat) :
    ((a.toNat + (~~~m).toNat + k : Nat) : Int) = a.toNat - m.toNat - (1 - k : Int) + 256 := by
  have hm := m.isLt
  rw [BitVec.toNat_not]
  omega

theorem ofInt_sub_eq_sum_not (a m : Byte) (k : Nat) :
    BitVec.ofInt 8 (a.toNat - m.toNat - (1 - k : Int)) = BitVec.ofNat 8 (a.toNat + (~~~m).toNat + k) := by
  rw [← BitVec.ofInt_natCast, sum_not, BitVec.ofInt_add]
  exact (BitVec.add_zero _).symm

theorem sbcResult_eq_adcResult_not (a m p : Byte) : sbcResult a m p = adcResult a (~~~m) p := by
  have hc : decide ((a.toNat : Int) - m.toNat - (1 - carryIn p : Int) ≥ 0) =
      decide (a.toNat + (~~~m).toNat + carryIn p > 0xFF) := by
    have h := sum_not a m (carryIn p)
    rw [decide_eq_decide]
    omega
  have hv : ((a ^^^ m) &&& 0x80 != 0) = ((a ^^^ ~~~m) &&& 0x80 == 0) := by simp
  simp only [sbcResult, adcResult, hc, hv, ofInt_sub_eq_sum_not]

theorem sbc_eq_adc_not (m : Byte) (c : Cpu) : c.sbc m = c.adc (~~~m) := by
  rw [Cpu.sbc, sbcResult_eq_adcResult_not, Cpu.adc]

/-- No borrow in numbers: the subtraction's operands compared (R224). -/
theorem sum_not_carry (a m : Byte) {k : Nat} (hk : k ≤ 1) :
    decide (0xFF < a.toNat + (~~~m).toNat + k) = decide (m.toNat + (1 - k) ≤ a.toNat) := by
  have h := sum_not a m k
  rw [decide_eq_decide]
  omega

/-- What ADC of the complement leaves is what SBC is to leave. -/
theorem AddedWithCarry.subtracted {m : Byte} {c : Cpu} {r t : State} (h : AddedWithCarry (~~~m) c r t) :
    SubtractedWithBorrow m c r t := by
  obtain ⟨ht, hc, hv, hn, hz, hf⟩ := h
  refine ⟨?_, ?_, ?_, hn, hz, hf⟩
  · rw [ofInt_sub_eq_sum_not]; exact ht
  · have h := sum_not c.a m (carryIn c.p)
    rw [hc, decide_eq_decide]
    omega
  · rw [hv]
    cases c.a.msb <;> cases h : m.msb <;> simp [h]

theorem sbc_addedWithCarry (m : Byte) (c : Cpu) (r : State) :
    AddedWithCarry (~~~m) c r (withCpu r (c.sbc m)) := by
  rw [sbc_eq_adc_not]
  exact adc_addedWithCarry _ c r

/-! ### Compares and BIT (R228 to R231) -/

/-- A compare of the byte `reg`, with whatever registers the state has. -/
theorem compareFlags_compared (reg m : Byte) (c : Cpu) (r : State) :
    Compared reg m c r (withCpu r { c with p := compareFlags reg m c.p }) := by
  refine ⟨rfl, ?_, ?_, ?_, (compare_keeps (fun _ => reg) m).flag c⟩
  · simp [compareFlags, BitVec.msb_eq_getLsbD_last]
  · have hz : (reg - m == 0) = decide (reg = m) := by
      rw [Bool.eq_iff_iff, beq_iff_eq, decide_eq_true_iff]
      exact sub_eq_zero
    simpa [compareFlags] using hz
  · simp [compareFlags]

theorem getFlag_bitFlags_N (a m p : Byte) : getFlag (bitFlags a m p) .N = m.getLsbD 7 := by simp [bitFlags]

theorem getFlag_bitFlags_V (a m p : Byte) : getFlag (bitFlags a m p) .V = m.getLsbD 6 := by simp [bitFlags]

theorem getFlag_bitFlags_Z (a m p : Byte) : getFlag (bitFlags a m p) .Z = decide (a &&& m = 0) := by
  simp only [bitFlags, getFlag_setFlag, if_true]
  rfl

/-! ### The D flag (R222) -/

theorem carryIn_setD (p : Byte) (d : Bool) : carryIn (setFlag p .D d) = carryIn p := by simp [carryIn]

/-- ADC's result byte and its flags but D do not depend on D, and D stays. -/
theorem adcResult_setD (a m p : Byte) (d : Bool) :
    adcResult a m (setFlag p .D d) = ((adcResult a m p).1, setFlag (adcResult a m p).2 .D d) := by
  simp only [adcResult, carryIn_setD, Prod.mk.injEq, true_and]
  apply flags_ext
  intro f
  cases f <;> simp

/-- What a tick does before the operation does not look at P. -/
theorem prepare_withD (m : Mode) (k : OpCost) (w : Word) (d : Bool) (s : State) :
    prepare m k w (withD d s) = withD d (prepare m k w s) := by
  have hr := resolve_withCpu m w s (s.cpu.putFlag .D d) rfl rfl rfl
  rw [prepare, show withD d s = withCpu s (s.cpu.putFlag .D d) from rfl, hr]
  simp only [advance, withD, withCpu, prepare, resolve_cpu, Cpu.putFlag]

theorem Shape.ready_withD (f : Shape) (d : Bool) (s : State) : f.ready (withD d s) = withD d (f.ready s) :=
  prepare_withD _ _ _ d s

/-- Nor does the data read. -/
theorem Shape.read_withD (f : Shape) (d : Bool) (s : State) :
    f.read (withD d s) = ((f.read s).1, withD d (f.read s).2) := by
  have hc : (f.read s).2.cpu = (f.ready s).cpu := memRead_cpu _ _
  rw [Shape.read, Shape.ready_withD, withD, withD, hc]
  exact memRead_withCpu _ _ _

/-- A register change gives the same with D at any level, and leaves D there. -/
def IgnoresD (g : Byte → Cpu → Cpu) : Prop := ∀ v d c, g v (c.putFlag .D d) = (g v c).putFlag .D d

theorem adc_ignoresD : IgnoresD Cpu.adc := fun v d c => by
  simp only [Cpu.adc, Cpu.putFlag, adcResult_setD]

theorem sbc_ignoresD : IgnoresD Cpu.sbc := fun v d c => by
  rw [sbc_eq_adc_not, sbc_eq_adc_not, adc_ignoresD]

/-- D put into both states reaches the registers a change that ignores it makes, and no more. -/
theorem IgnoresD.apply_withD {g : Byte → Cpu → Cpu} (hg : IgnoresD g) (v : Byte) (d : Bool) (r u : State) :
    withCpu (withD d r) (g v (withD d u).cpu) = withD d (withCpu r (g v u.cpu)) := by
  rw [show (withD d u).cpu = u.cpu.putFlag .D d from rfl, hg]
  rfl

/-- A read form whose operation ignores D does so as an instruction. -/
theorem Shape.ReadsWith.exec_withD {g : Byte → Cpu → Cpu} {f : Shape} (h : f.ReadsWith g) (hg : IgnoresD g)
    {s t : State} (d : Bool) (ht : exec f.instr s = .next t) : exec f.instr (withD d s) = .next (withD d t) := by
  rw [h.exec_eq] at ht ⊢
  cases ht
  rw [f.read_withD, f.ready_withD, hg.apply_withD]

/-- So does an Immediate form. -/
theorem immediateOp_withD {g : Byte → Cpu → Cpu} (hg : IgnoresD g) (k : OpCost) (v : Byte) (d : Bool) (s : State) :
    immediateOp k v g (withD d s) = withD d (immediateOp k v g s) := by
  rw [immediateOp, prepare_withD]
  exact hg.apply_withD v d _ _

end Sys2Proof.Machine
end

section
/-! SUPPORT. The registers a form's operation finds, and the read-modify-write forms
(spec/30_encoding.md R148, spec/41_arithmetic_logic.md R232, R233). -/

namespace Sys2Proof.Machine

@[simp] theorem Shape.ready_a (f : Shape) (s : State) : (f.ready s).cpu.a = s.cpu.a := f.ready_reg s .A

@[simp] theorem Shape.ready_x (f : Shape) (s : State) : (f.ready s).cpu.x = s.cpu.x := f.ready_reg s .X

@[simp] theorem Shape.ready_y (f : Shape) (s : State) : (f.ready s).cpu.y = s.cpu.y := f.ready_reg s .Y

/-- A line of the table of read instructions, counted from 0. -/
theorem readTable_line (b : Byte) (w : Word) (k : Fin 12) : (readTable b w)[k] ∈ readTable b w :=
  List.getElem_mem k.isLt

/-- The form is a read-modify-write instruction with computation `g`, in a mode other than Indirect (R148). -/
def Shape.ModifiesWith (g : Byte → Byte → Byte × Byte) (f : Shape) : Prop :=
  f.mode ≠ .indirect ∧ ∀ s, exec f.instr s = .next (modifyOp f.mode f.cost f.operand g s)

/-- The read-modify-write instructions: the computation of each with its memory forms (R150). -/
def modifyTable (b : Byte) (w : Word) : List ((Byte → Byte → Byte × Byte) × List Shape) :=
  [(incResult, Forms.inc b w), (decResult, Forms.dec b w), (aslResult, Forms.asl b w), (lsrResult, Forms.lsr b w),
   (rolResult, Forms.rol b w), (rorResult, Forms.ror b w)]

/-- Every form of the table runs its computation. -/
theorem modifyTable_modifiesWith (b : Byte) (w : Word) : ∀ e ∈ modifyTable b w, ∀ f ∈ e.2, f.ModifiesWith e.1 := by
  intro e he f hf
  fin_cases he <;> fin_cases hf <;> exact ⟨nofun, fun _ => rfl⟩

theorem inc_modifiesWith {b : Byte} {w : Word} {f : Shape} (hf : f ∈ Forms.inc b w) : f.ModifiesWith incResult :=
  modifyTable_modifiesWith b w (incResult, Forms.inc b w) (.head _) f hf

theorem dec_modifiesWith {b : Byte} {w : Word} {f : Shape} (hf : f ∈ Forms.dec b w) : f.ModifiesWith decResult :=
  modifyTable_modifiesWith b w (decResult, Forms.dec b w) (.tail _ (.head _)) f hf

/-- All the forms of the table, one line after the other. -/
theorem modifyTable_forms (b : Byte) (w : Word) :
    Forms.inc b w ++ Forms.dec b w ++ Forms.asl b w ++ Forms.lsr b w ++ Forms.rol b w ++ Forms.ror b w =
      (modifyTable b w).flatMap Prod.snd := rfl

/-- Every computation of the table leaves these flags alone (R232, R233, R250). -/
theorem modifyTable_resultKeeps (b : Byte) (w : Word) :
    ∀ e ∈ modifyTable b w, ResultKeeps [.V, .U, .B, .D, .I] e.1 := by
  intro e he
  fin_cases he
  · exact inc_resultKeeps.mono (by decide)
  · exact dec_resultKeeps.mono (by decide)
  · exact asl_resultKeeps
  · exact lsr_resultKeeps
  · exact rol_resultKeeps
  · exact ror_resultKeeps

section
variable {g : Byte → Byte → Byte × Byte} {f : Shape}

/-- A read-modify-write form answers one read and one write at the same `al`, then P (R148). -/
theorem Shape.ModifiesWith.exec_eq (h : f.ModifiesWith g) (s : State) :
    exec f.instr s =
      .next (withCpu (memWrite (f.ready s).cpu.al (g (f.read s).1 s.cpu.p).1 (f.read s).2)
        { (f.ready s).cpu with p := (g (f.read s).1 s.cpu.p).2 }) := by
  obtain ⟨-, he⟩ := h
  rw [he, modifyOp_eq, Shape.read, Shape.ready]

/-- What a read-modify-write form leaves alone: all but P's computed flags and the byte it writes (R29, R101). -/
theorem Shape.ModifiesWith.frame (h : f.ModifiesWith g) {flags : List Flag} (hg : ResultKeeps flags g) {s t : State}
    (ht : exec f.instr s = .next t) :
    Leaves [.A, .X, .Y, .SP] flags s t ∧
      SameRamExcept (storedAt (f.read s).2 (f.ready s).cpu.al).toList s t ∧
      (isIo (f.ready s).cpu.al = false → SameDevices s t) := by
  obtain ⟨hm, he⟩ := h
  rw [he] at ht
  cases ht
  exact modifyOp_frame hm f.cost f.operand s g flags hg

end

end Sys2Proof.Machine

namespace Sys2Proof.Proofs

open Sys2Proof.Machine

/-- Settles O16: every form answers `Cpu.adc` on its registers. -/
theorem adcResult : Obligations.AdcResult := by
  intro b w
  refine ⟨rfl, rfl, fun s => ⟨fun f hf => ?_, ?_⟩⟩
  · exact ⟨_, readTable_exec (readTable_line b w 3) s f hf, adc_addedWithCarry _ _ _⟩
  · exact ⟨_, rfl, adc_addedWithCarry b _ _⟩

/-- Settles O17: every form answers `Cpu.sbc` on its registers, which is `Cpu.adc` of the complement. -/
theorem sbcResult : Obligations.SbcResult := by
  intro b w
  refine ⟨rfl, rfl, fun s => ⟨fun f hf => ?_, ?_⟩⟩
  · have h := sbc_addedWithCarry (f.read s).1 (f.ready s).cpu (f.read s).2
    exact ⟨_, readTable_exec (readTable_line b w 4) s f hf, h.subtracted, h⟩
  · have h := sbc_addedWithCarry b (immediateReady s).cpu (immediateReady s)
    exact ⟨_, rfl, h.subtracted, h⟩

/-- Settles O18: nothing before the operation looks at P, and the two operations ignore D. -/
theorem decimalModeIgnored : Obligations.DecimalModeIgnored := by
  refine ⟨fun b w s t d => ⟨fun f hf ht => ?_, fun i hi ht => ?_⟩, fun s ha hc _ => ?_⟩
  · rcases List.mem_append.1 hf with hf | hf
    · exact (readTable_readsWith b w _ (readTable_line b w 3) f hf).exec_withD adc_ignoresD d ht
    · exact (readTable_readsWith b w _ (readTable_line b w 4) f hf).exec_withD sbc_ignoresD d ht
  · fin_cases hi
    · cases ht
      exact congrArg _ (immediateOp_withD adc_ignoresD ⟨2, 2, 0⟩ b d s)
    · cases ht
      exact congrArg _ (immediateOp_withD sbc_ignoresD ⟨2, 2, 0⟩ b d s)
  · refine ⟨_, rfl, ?_⟩
    have hk : carryIn s.cpu.p = 0 := by simp [carryIn, hc]
    change (Machine.adcResult s.cpu.a 0x26 s.cpu.p).1 = 0x3B
    rw [ha, Machine.adcResult, hk]
    rfl

/-- Settles O19: the exact sums of ADC, which for SBC are those of ADC of the complement. -/
theorem overflowIsSigned : Obligations.OverflowIsSigned := by
  intro b w s t
  refine ⟨fun f hf ht => ?_, fun f hf ht => ?_⟩
  · rw [readTable_exec (readTable_line b w 3) s f hf] at ht
    cases ht
    have h := adc_addedWithCarry (f.read s).1 (f.ready s).cpu (f.read s).2
    obtain ⟨hv, ha⟩ := h.signed
    obtain ⟨-, hc, -⟩ := h
    rw [f.ready_a, f.ready_p] at hv ha hc
    exact ⟨hv, ha, hc⟩
  · rw [readTable_exec (readTable_line b w 4) s f hf] at ht
    cases ht
    have h := sbc_addedWithCarry (f.read s).1 (f.ready s).cpu (f.read s).2
    obtain ⟨hv, ha⟩ := h.signed
    obtain ⟨-, hc, -⟩ := h
    rw [f.ready_a, f.ready_p] at hv ha hc
    rw [sum_not_carry _ _ (carryIn_le_one _)] at hc
    rw [signedSum_not] at hv ha
    exact ⟨hv, ha, hc⟩

/-- Settles O20: the register and P are as they were before the tick. -/
theorem logicResult : Obligations.LogicResult := by
  intro b w s
  refine ⟨fun f hf => ?_, fun f hf => ?_, fun f hf => ?_, rfl, rfl, rfl⟩
  · rw [readTable_exec (readTable_line b w 5) s f hf, Cpu.and, f.ready_a, f.ready_p]
  · rw [readTable_exec (readTable_line b w 6) s f hf, Cpu.ora, f.ready_a, f.ready_p]
  · rw [readTable_exec (readTable_line b w 7) s f hf, Cpu.eor, f.ready_a, f.ready_p]

/-- Settles O21: each form compares its register as it was before the tick. -/
theorem compareResult : Obligations.CompareResult := by
  intro b w
  refine ⟨rfl, rfl, rfl, rfl, rfl, rfl, fun s => ⟨fun f hf => ?_, fun f hf => ?_, fun f hf => ?_, ?_, ?_, ?_⟩⟩
  · rw [← f.ready_a s]
    exact ⟨_, readTable_exec (readTable_line b w 8) s f hf, compareFlags_compared _ _ _ _⟩
  · rw [← f.ready_x s]
    exact ⟨_, readTable_exec (readTable_line b w 9) s f hf, compareFlags_compared _ _ _ _⟩
  · rw [← f.ready_y s]
    exact ⟨_, readTable_exec (readTable_line b w 10) s f hf, compareFlags_compared _ _ _ _⟩
  · exact ⟨_, rfl, compareFlags_compared s.cpu.a b _ _⟩
  · exact ⟨_, rfl, compareFlags_compared s.cpu.x b _ _⟩
  · exact ⟨_, rfl, compareFlags_compared s.cpu.y b _ _⟩

/-- Settles O22, from the flags of BIT. -/
theorem bitResult : Obligations.BitResult := by
  intro b w
  refine ⟨rfl, fun s f hf => ?_⟩
  have hk := (bit_keeps (f.read s).1).flag (f.ready s).cpu
  rw [readTable_exec (readTable_line b w 11) s f hf]
  rw [f.ready_p] at hk
  refine ⟨_, rfl, rfl, getFlag_bitFlags_N _ _ _, getFlag_bitFlags_V _ _ _, ?_, hk⟩
  rw [← f.ready_a s]
  exact getFlag_bitFlags_Z _ _ _

/-- Settles O23, from what a read-modify-write form answers. -/
theorem incDecResult : Obligations.IncDecResult := by
  intro b w s
  exact ⟨fun f hf => (inc_modifiesWith hf).exec_eq s, fun f hf => (dec_modifiesWith hf).exec_eq s⟩

/-- Settles O39: the frame of each line of the table; INC and DEC keep C as well. -/
theorem frameOfModify : Obligations.FrameOfModify := by
  intro b w s t
  refine ⟨fun f hf ht => ?_, fun f hf ht => ?_⟩
  · rw [modifyTable_forms] at hf
    obtain ⟨e, he, hf⟩ := List.mem_flatMap.1 hf
    exact (modifyTable_modifiesWith b w e he f hf).frame (modifyTable_resultKeeps b w e he) ht
  · have keepsC {g : Byte → Byte → Byte × Byte} (hf : f.ModifiesWith g)
        (hg : ResultKeeps [.V, .U, .B, .D, .I, .C] g) : SameFlags [.C] s t := by
      obtain ⟨⟨-, hflags, -⟩, -⟩ := hf.frame (hg.mono (flags' := [.C]) (by decide)) ht
      exact hflags
    rcases List.mem_append.1 hf with hf | hf
    · exact keepsC (inc_modifiesWith hf) inc_resultKeeps
    · exact keepsC (dec_modifiesWith hf) dec_resultKeeps

end Sys2Proof.Proofs
end

section
/-! SUPPORT. The four shifts as moves of the bits of a byte, with their flags (spec/42_shift_rotate.md R250 to R254). -/

namespace Sys2Proof.Machine

/-! ### The result byte and P -/

/-- C written from the bit shifted out and then `setNZ` of the result give the P of a shift (R250). -/
theorem shiftFlags_setNZ (r : Byte) (carry : Bool) (p : Byte) :
    ShiftFlags r carry p (setNZ r (setFlag p .C carry)) := by
  refine ⟨by simp, ?_, by simp, by simp⟩
  simp [BitVec.msb_eq_getLsbD_last]

/-- A shift left with the freed bit 0 filled in (R251, R253). -/
theorem shiftsLeft_or_fill (v : Byte) (fill : Bool) :
    shiftsLeft v fill (v <<< 1 ||| if fill then 0x01 else 0x00) (v.getLsbD 7) := by
  refine ⟨fun i hi => ?_, ?_, rfl⟩
  · have hfill : (if fill then 0x01 else 0x00 : Byte).getLsbD (i + 1) = false := by cases fill <;> simp
    have hlt : i + 1 < 8 := by omega
    rw [BitVec.getLsbD_or, hfill, Bool.or_false, BitVec.getLsbD_shiftLeft, decide_eq_true hlt]
    simp
  · cases fill <;> simp

/-- A shift right with the freed bit 7 filled in (R252, R254). -/
theorem shiftsRight_or_fill (v : Byte) (fill : Bool) :
    shiftsRight v fill (v >>> 1 ||| if fill then 0x80 else 0x00) (v.getLsbD 0) := by
  refine ⟨fun i hi => ?_, ?_, rfl⟩
  · have hfill : (if fill then 0x80 else 0x00 : Byte).getLsbD i = false := by
      cases fill <;> interval_cases i <;> rfl
    rw [BitVec.getLsbD_or, hfill, Bool.or_false, BitVec.getLsbD_ushiftRight, Nat.add_comm]
  · cases fill <;> simp

/-! ### The computations -/

/-- From the status byte `p`, computation `g` shifts every byte as `law` says and sets the flags of a shift. -/
def ShiftsAs (law : Byte → Byte → Bool → Prop) (g : Byte → Byte → Byte × Byte) (p : Byte) : Prop :=
  ∀ v, ∃ carry, law v (g v p).1 carry ∧ ShiftFlags (g v p).1 carry p (g v p).2

theorem rol_shiftsAs (p : Byte) : ShiftsAs (fun v => shiftsLeft v (getFlag p .C)) rolResult p :=
  fun v => ⟨_, shiftsLeft_or_fill v _, shiftFlags_setNZ _ _ p⟩

theorem ror_shiftsAs (p : Byte) : ShiftsAs (fun v => shiftsRight v (getFlag p .C)) rorResult p :=
  fun v => ⟨_, shiftsRight_or_fill v _, shiftFlags_setNZ _ _ p⟩

/-- ASL fills with 0. -/
theorem asl_shiftsAs (p : Byte) : ShiftsAs (fun v => shiftsLeft v false) aslResult p :=
  fun v => ⟨_, by simpa [aslResult] using shiftsLeft_or_fill v false, shiftFlags_setNZ _ _ p⟩

/-- LSR fills with 0. -/
theorem lsr_shiftsAs (p : Byte) : ShiftsAs (fun v => shiftsRight v false) lsrResult p :=
  fun v => ⟨_, by simpa [lsrResult] using shiftsRight_or_fill v false, shiftFlags_setNZ _ _ p⟩

/-! ### The instructions -/

/-- A line of the table of read-modify-write instructions, counted from 0. -/
theorem modifyTable_line (b : Byte) (w : Word) (k : Fin 6) : (modifyTable b w)[k] ∈ modifyTable b w :=
  List.getElem_mem k.isLt

section
variable {law : Byte → Byte → Bool → Prop} {g : Byte → Byte → Byte × Byte} {s : State}

/-- A read-modify-write form shifts the byte it reads as its computation does. -/
theorem Shape.ModifiesWith.shiftedMemory {f : Shape} (h : f.ModifiesWith g) (hg : ShiftsAs law g s.cpu.p) :
    ShiftedMemory law f s := by
  obtain ⟨carry, hlaw, hflags⟩ := hg (f.read s).1
  exact ⟨_, carry, _, h.exec_eq s, hlaw, hflags⟩

/-- An accumulator form shifts A as its computation does: its mode resolves without an access (R147). -/
theorem shiftedA_of_accumulatorOp {i : Instr} (h : exec i s = .next (accumulatorOp ⟨1, 2, 0⟩ g s))
    (hg : ShiftsAs law g s.cpu.p) : ShiftedA law i s := by
  obtain ⟨carry, hlaw, hflags⟩ := hg s.cpu.a
  exact ⟨_, carry, _, h, hlaw, hflags⟩

end

end Sys2Proof.Machine

namespace Sys2Proof.Proofs

open Sys2Proof.Machine

/-- Settles O24: each form runs its computation, on memory or on A, and the computation moves the bits. -/
theorem shiftResult : Obligations.ShiftResult := by
  intro b w s
  -- the lines of the table, counted from 0
  have line (k : Fin 6) := modifyTable_modifiesWith b w _ (modifyTable_line b w k)
  refine ⟨fun f hf => ?_, fun f hf => ?_, fun f hf => ?_, fun f hf => ?_, ?_, ?_, ?_, ?_⟩
  · exact (line 2 f hf).shiftedMemory (asl_shiftsAs _)
  · exact (line 3 f hf).shiftedMemory (lsr_shiftsAs _)
  · exact (line 4 f hf).shiftedMemory (rol_shiftsAs _)
  · exact (line 5 f hf).shiftedMemory (ror_shiftsAs _)
  · exact shiftedA_of_accumulatorOp rfl (asl_shiftsAs _)
  · exact shiftedA_of_accumulatorOp rfl (lsr_shiftsAs _)
  · exact shiftedA_of_accumulatorOp rfl (rol_shiftsAs _)
  · exact shiftedA_of_accumulatorOp rfl (ror_shiftsAs _)

end Sys2Proof.Proofs
end

section
/-! SUPPORT. Jumps, branches, calls and returns as states in full (spec/43_control_flow.md R261 to R273). -/

namespace Sys2Proof.Machine

/-! ### Jumps and branches -/

/-- All that a jump does (R261). -/
theorem jumpOp_eq (m : Mode) (c : OpCost) (w : Word) (s : State) :
    jumpOp m c w s =
      withCpu (resolve m w s).state
        { s.cpu with
          al := (resolve m w s).al
          pc := (resolve m w s).al
          cycleCount :=
            s.cpu.cycleCount + BitVec.ofNat 64 (c.cycles + if (resolve m w s).paged then c.pageCycles else 0) } := by
  rw [jumpOp, onCpu, prepare_cpu]
  rfl

/-- The two bytes of a pointer outside the soft-switch page are the mapped ones (R83, R100). -/
theorem memRead_memRead_plain {a b : Word} (ha : isIo a = false) (hb : isIo b = false) (s : State) :
    (memRead a s).1 = mappedByte s a ∧ (memRead b (memRead a s).2).1 = mappedByte s b := by
  rw [memRead_plain ha, memRead_plain hb]
  exact ⟨rfl, mappedByte_withBus _ _ _ _ _⟩

/-- One cycle more for a target in the page of the next instruction (R264). -/
theorem takeBranch_within {c : Cpu} (h : pageDiffers c.al c.pc = false) :
    takeBranch c = { c with pc := c.al, cycleCount := c.cycleCount + 1 } := by
  rw [takeBranch, h]
  rfl

/-- Two more for a target out of it (R265). -/
theorem takeBranch_out {c : Cpu} (h : pageDiffers c.al c.pc = true) :
    takeBranch c = { c with pc := c.al, cycleCount := c.cycleCount + 2 } := by
  rw [takeBranch, h]
  rfl

/-- All that a branch does, taken or not (R264, R265). -/
theorem branchOp_eq (b : Byte) (f : Flag) (want : Bool) (s : State) :
    branchOp ⟨2, 2, 0⟩ b f want s =
      withCpu s
        { s.cpu with
          al := s.cpu.pc + 2 + sext16 b
          pc := if getFlag s.cpu.p f = want then s.cpu.pc + 2 + sext16 b else s.cpu.pc + 2
          cycleCount :=
            s.cpu.cycleCount +
              (if getFlag s.cpu.p f = want then
                (if pageDiffers (s.cpu.pc + 2 + sext16 b) (s.cpu.pc + 2) then 4 else 3)
              else 2) } := by
  have hready : prepare .relative ⟨2, 2, 0⟩ (zext16 b) s =
      withCpu s
        { s.cpu with
          al := s.cpu.pc + 2 + sext16 b, pc := s.cpu.pc + 2, cycleCount := s.cpu.cycleCount + 2 } := by
    rw [prepare, advance, resolve_relative_al]
    rfl
  rw [branchOp, hready, onCpu, withCpu_cpu]
  by_cases hf : getFlag s.cpu.p f = want
  · rw [if_pos hf, if_pos hf, if_pos hf]
    cases hp : pageDiffers (s.cpu.pc + 2 + sext16 b) (s.cpu.pc + 2) with
    | false =>
      rw [takeBranch_within, BitVec.add_assoc s.cpu.cycleCount 2]
      · rfl
      · exact hp
    | true =>
      rw [takeBranch_out, BitVec.add_assoc s.cpu.cycleCount 2]
      · rfl
      · exact hp
  · rw [if_neg hf, if_neg hf, if_neg hf]
    rfl

/-- Each of the eight branches tests its flag (R266 to R273). -/
theorem branches_exec {b : Byte} {f : BranchShape} (hf : f ∈ Forms.branches b) (s : State) :
    exec f.instr s = .next (branchOp ⟨2, 2, 0⟩ b f.flag f.takenOn s) := by
  fin_cases hf <;> rfl

/-- The next instruction's address as a number (R264). -/
theorem add_two_eq_ofNat (a : Word) : a + 2 = BitVec.ofNat 16 (a.toNat + 2) := by
  rw [BitVec.ofNat_add, BitVec.ofNat_toNat, BitVec.setWidth_eq]
  rfl

/-! ### Calls and returns -/

/-- The word pushed, byte by byte: its high byte at the stack top, its low byte below (R28). -/
theorem stackByte_push16 (w : Word) (s : State) :
    stackByte (push16 w s) s.cpu.sp = hiByte w ∧ stackByte (push16 w s) (s.cpu.sp - 1) = loByte w := by
  have hne : stackPlace s (s.cpu.sp - 1) ≠ stackPlace s s.cpu.sp := stackPlace_ne s (by bv_omega)
  have hb (sp : Byte) : stackByte (push16 w s) sp = ramRead (push16 w s) (stackPlace s sp).1 (stackPlace s sp).2 := by
    rw [stackByte, push16_sw, stackPlace]
  rw [hb, hb, push16_ram, push16_ram, if_neg hne, if_pos rfl, if_pos rfl]
  exact ⟨rfl, rfl⟩

theorem callSubroutine_cpu (s : State) :
    (callSubroutine s).cpu = { s.cpu with pc := s.cpu.al, sp := s.cpu.sp - 2 } := by
  rw [callSubroutine, onCpu_cpu, push16_cpu]

/-- A change of the registers leaves every stack byte (R27). -/
theorem stackByte_onCpu (g : Cpu → Cpu) (s : State) (sp : Byte) : stackByte (onCpu g s) sp = stackByte s sp :=
  ramRead_onCpu g s _ _

/-- The address pushed is PC - 1 (R262). -/
theorem stackByte_callSubroutine (s : State) :
    stackByte (callSubroutine s) s.cpu.sp = hiByte (s.cpu.pc - 1) ∧
      stackByte (callSubroutine s) (s.cpu.sp - 1) = loByte (s.cpu.pc - 1) := by
  rw [callSubroutine, stackByte_onCpu, stackByte_onCpu]
  exact stackByte_push16 _ s

theorem returnFromSubroutine_cpu (s : State) :
    (returnFromSubroutine s).cpu =
      { s.cpu with
        pc := wordOf (stackByte s (s.cpu.sp + 2)) (stackByte s (s.cpu.sp + 1)) + 1
        sp := s.cpu.sp + 2 } := by
  rw [returnFromSubroutine, onCpu_cpu, pull16_fst, pull16_cpu]

end Sys2Proof.Machine

namespace Sys2Proof.Proofs

open Sys2Proof.Machine

/-- Settles O25: the pointer's second address is the next one within its page. -/
theorem jumpResult : Obligations.JumpResult := by
  intro w
  refine ⟨rfl, rfl, fun s => ⟨?_, ?_⟩⟩
  · exact congrArg Host.Outcome.next (jumpOp_eq .absolute ⟨3, 3, 0⟩ w s)
  · rw [← nextInPage_eq]
    exact ⟨congrArg Host.Outcome.next (jumpOp_eq .indirect ⟨3, 5, 0⟩ w s),
      fun h => memRead_memRead_plain h (by rw [isIo_nextInPage, h]) s⟩

/-- Settles O26: the registers and the stack bytes from the operations, the rest from the frame of calls and returns. -/
theorem subroutineResult : Obligations.SubroutineResult := by
  intro w
  refine ⟨rfl, rfl, fun s => ?_⟩
  obtain ⟨-, -, hcall, hreturn⟩ := frameOfControl 0 w s
  constructor
  · obtain ⟨-, hram, hdev⟩ := hcall (.jsr w) (.head _) _ rfl
    have hlast : s.cpu.pc + 3#16 - 1 = s.cpu.pc + 2 := by bv_omega
    obtain ⟨hhi, hlo⟩ := stackByte_callSubroutine (prepare .absolute ⟨3, 6, 0⟩ w s)
    rw [prepare_sp, prepare_pc, hlast] at hhi hlo
    exact ⟨_, rfl, callSubroutine_cpu _, hhi, hlo, hram, hdev⟩
  · obtain ⟨-, hram, hdev⟩ := hreturn .rts (.head _) _ rfl
    refine ⟨_, rfl, ?_, fun bank off => hram bank off List.not_mem_nil, hdev⟩
    exact returnFromSubroutine_cpu _

/-- Settles O27: the eight branches by the one operation they share, its addresses and pages as numbers. -/
theorem branchResult : Obligations.BranchResult := by
  intro b s f hf
  rw [branches_exec hf, branchOp_eq, add_sext16_eq, add_two_eq_ofNat, pageDiffers_eq]
  simp only [decide_eq_true_eq, ne_eq, ite_not]

/-- Settles O28: RTS finds the two bytes JSR pushed, and adds 1 to the word they make. -/
theorem callThenReturn : Obligations.CallThenReturn := by
  intro w s t u ht hu
  obtain ⟨-, -, hresult⟩ := subroutineResult w
  obtain ⟨⟨t', ht', hcpu, hhi, hlo, -⟩, -⟩ := hresult s
  obtain rfl : t' = t := by rw [ht'] at ht; cases ht; rfl
  obtain ⟨-, v, hv, hvcpu, -⟩ := hresult u
  have ⟨_, _, hsp⟩ := hu
  have husp : u.cpu.sp = s.cpu.sp - 2 := by rw [hsp, hcpu]
  have htop : u.cpu.sp + 2 = s.cpu.sp := by rw [husp, BitVec.sub_add_cancel]
  have hbelow : u.cpu.sp + 1 = s.cpu.sp - 1 := by rw [husp]; bv_omega
  have hnext : s.cpu.pc + 2 + 1 = s.cpu.pc + 3 := by rw [BitVec.add_assoc]; rfl
  refine ⟨v, hv, ?_, ?_⟩
  · rw [hvcpu, htop, hbelow, hu.byte, hu.byte, hhi, hlo, wordOf_hiByte_loByte, hnext]
  · rw [hvcpu, htop]

end Sys2Proof.Proofs
end

section
/-! SUPPORT. The stack, the flags, the exception and the return from it as registers and stack bytes
(spec/44_stack_flags_system.md R282 to R297), and the one instruction that can end a run (R294). -/

namespace Sys2Proof.Machine

/-! ### BRK_MODE is the machine's for good (R6) -/

theorem keyDown_params (ascii : BitVec 7) (s : State) : (keyDown ascii s).params = s.params := by
  unfold keyDown
  split
  · rfl
  · rfl

theorem warmReset_params (s : State) : (warmReset s).params = s.params :=
  (memRead16_frame resetVector (onCpu (fun c => { c with a := 0, x := 0, y := 0, p := 0x24, sp := 0xFD }) s)).params

/-- No event of the host changes a parameter (R515). -/
theorem hostEvent_params (e : HostEvent) (s : State) : (hostEvent e s).params = s.params := by
  cases e with
  | keyDown _ | printableKey _ | namedKey _ => exact keyDown_params _ s
  | resetKey =>
    rw [hostEvent]
    split
    · exact warmReset_params s
    · rfl
  | insertDisk inDrive2 img =>
    rw [hostEvent]
    split
    · rfl
    · rfl
  | modifierKey _ _ | controlKey _ | ejectDisk _ | setColor _ | setMonoColor _ => rfl

theorem hostEvents_params (es : List HostEvent) (s : State) : (hostEvents es s).params = s.params := by
  induction es generalizing s with
  | nil => rfl
  | cons e es ih => exact (ih (hostEvent e s)).trans (hostEvent_params e s)

theorem startOfRun_params (s : State) : (startOfRun s).params = s.params := by
  unfold startOfRun
  split
  · rfl
  · rfl

/-- What comes before a tick changes no parameter. -/
theorem beforeTick_params (s : State) : (beforeTick s).params = s.params := by
  unfold beforeTick deliverEvents
  split
  · exact startOfRun_params s
  · exact (hostEvents_params _ _).trans (startOfRun_params s)

theorem fetch_params (s : State) : (fetch s).2.params = s.params := (fetch_frame s).1.params

/-! ### The one instruction that can end a run (R293, R294) -/

theorem exec_brk_vector {s : State} (h : s.params.brkMode = .vector) (sig : Byte) :
    exec (.brk sig) s = .next (takeException brkVector (prepare .implied ⟨2, 7, 0⟩ 0 s)) := by
  change execBrk sig s = _
  rw [execBrk, h]

theorem exec_brk_halt {s : State} (h : s.params.brkMode = .halt) (sig : Byte) :
    exec (.brk sig) s = .fault .brkHalt := by
  change execBrk sig s = _
  rw [execBrk, h]

/-- Every instruction has a next state, but BRK where it halts. -/
theorem exec_next_or_halt (i : Instr) (s : State) :
    (∃ t, exec i s = .next t) ∨ (s.params.brkMode = .halt ∧ ∃ sig, i = .brk sig) := by
  cases i with
  | brk sig =>
    cases h : s.params.brkMode with
    | vector => exact .inl ⟨_, exec_brk_vector h sig⟩
    | halt => exact .inr ⟨rfl, sig, rfl⟩
  | _ => exact .inl ⟨_, rfl⟩

/-- The instruction fetched is the one that the form of the opcode at PC makes of two further bytes (R143). -/
theorem fetch_fst (s : State) : ∃ b1 b2, (fetch s).1 = (opForm (memRead s.cpu.pc s).1).instr b1 b2 := ⟨_, _, rfl⟩

/-- BRK is what opcode $00 decodes to, and no other opcode does (R151). -/
theorem fetch_eq_brk_iff (s : State) : (∃ sig, (fetch s).1 = .brk sig) ↔ (memRead s.cpu.pc s).1 = 0x00 := by
  obtain ⟨b1, b2, hf⟩ := fetch_fst s
  rw [hf]
  constructor
  · rintro ⟨sig, h⟩
    rw [← opcode_instr (memRead s.cpu.pc s).1 b1 b2, h]
    rfl
  · intro h
    rw [h]
    exact ⟨b1, rfl⟩

theorem completes_of_tick_next {s u : State} (h : tick (beforeTick s) = .next u) : Completes s :=
  ⟨afterTick (cyclesSince (beforeTick s).cpu.cycleCount u) u, by rw [step, h]⟩

theorem step_eq_fault_of_tick {s : State} {r : Fault} (h : tick (beforeTick s) = .fault r) : step s = .fault r := by
  rw [step, h]

/-! ### Stack bytes under one push or pull (R27) -/

theorem stackByte_push8 (v : Byte) (s : State) : stackByte (push8 v s) s.cpu.sp = v := by
  rw [stackByte, push8_sw, push8_ram]
  exact if_pos rfl

theorem stackByte_push8_ne (v : Byte) {s : State} {sp : Byte} (h : s.cpu.sp ≠ sp) :
    stackByte (push8 v s) sp = stackByte s sp := by
  rw [stackByte, push8_sw, push8_ram]
  exact if_neg (stackPlace_ne s h)

theorem stackByte_pull8 (s : State) (sp : Byte) : stackByte (pull8 s).2 sp = stackByte s sp := by
  rw [stackByte, pull8_sw, pull8_ram, stackByte]

/-- A stack left as a push left it: the next pull finds SP back where it was and the byte pushed. -/
theorem SameStack.pull_of_push8 {v : Byte} {s u : State} (h : SameStack (push8 v s) u) :
    u.cpu.sp + 1 = s.cpu.sp ∧ stackByte u (u.cpu.sp + 1) = v := by
  have ⟨_, _, hsp⟩ := h
  have htop : u.cpu.sp + 1 = s.cpu.sp := by rw [hsp, push8_cpu, BitVec.sub_add_cancel]
  rw [htop, h.byte]
  exact ⟨rfl, stackByte_push8 v s⟩

/-! ### PLA, PLP and the status byte (R283 to R286) -/

theorem pullA_cpu (s : State) :
    (pullA s).cpu =
      { s.cpu with
        sp := s.cpu.sp + 1
        a := stackByte s (s.cpu.sp + 1)
        p := setNZ (stackByte s (s.cpu.sp + 1)) s.cpu.p } := by
  rw [pullA, onCpu_cpu, pull8_fst, pull8_cpu]

theorem pullP_cpu (s : State) :
    (pullP s).cpu =
      { s.cpu with sp := s.cpu.sp + 1, p := pulledStatus (stackByte s (s.cpu.sp + 1)) } := by
  rw [pullP, onCpu_cpu, pull8_fst, pull8_cpu]

/-- The six flags of the pulled byte, B clear, Unused set (R286). -/
theorem pulledStatus_flags (v : Byte) :
    (∀ f ∈ [Flag.N, .V, .D, .I, .Z, .C], getFlag (pulledStatus v) f = getFlag v f) ∧
      getFlag (pulledStatus v) .B = false ∧ getFlag (pulledStatus v) .U = true := by
  simp

/-- Pushing and pulling change B and Unused only, and these not where B was clear and Unused set (R26). -/
theorem pulledStatus_pushedStatus {p : Byte} (h : p &&& 0x30 = 0x20) : pulledStatus (pushedStatus p) = p := by
  obtain ⟨hU, hB⟩ := (status_iff p).1 h
  apply flags_ext
  intro f
  cases f with
  | U => simp [hU]
  | B => simp [hB]
  | N | V | D | I | Z | C => simp

/-! ### The vector (R501, R502) -/

theorem mappedByte_onCpu (g : Cpu → Cpu) (s : State) (a : Word) : mappedByte (onCpu g s) a = mappedByte s a := rfl

/-- A push leaves the byte that a read above $DFFF returns, RAM or ROM. -/
theorem mappedByte_push8 {a : Word} (ha : 0xE000 ≤ a.toNat) (v : Byte) (s : State) :
    mappedByte (push8 v s) a = mappedByte s a := by
  have hother : ∀ bank off, writePlace s.sw (stackAddr s.cpu.sp).toNat = .ram bank off →
      readPlace s.sw a.toNat ≠ .ram bank off := by
    intro bank off hw hr
    have hsp := s.cpu.sp.isLt
    rw [stackAddr_toNat, writePlace_zp (by omega)] at hw
    rw [readPlace_top ha] at hr
    cases hw
    split at hr
    · injection hr with _ hoff
      omega
    · cases hr
  exact mappedByte_memWrite_other (isIo_stackAddr _) hother v

theorem mappedByte_push16 {a : Word} (ha : 0xE000 ≤ a.toNat) (w : Word) (s : State) :
    mappedByte (push16 w s) a = mappedByte s a := by
  rw [push16, mappedByte_push8 ha, mappedByte_push8 ha]

/-- A vector away from the soft-switch page is the word mapped there (R82). -/
theorem memRead16_plain_fst {a : Word} (h0 : isIo a = false) (h1 : isIo (a + 1) = false) (s : State) :
    (memRead16 a s).1 = wordOf (mappedByte s (a + 1)) (mappedByte s a) := by
  obtain ⟨hlo, hhi⟩ := memRead_memRead_plain h0 h1 s
  rw [memRead16, hlo, hhi]

theorem stackByte_memRead16 {a : Word} (h0 : isIo a = false) (h1 : isIo (a + 1) = false) (s : State) (sp : Byte) :
    stackByte (memRead16 a s).2 sp = stackByte s sp := by
  simp only [memRead16, memRead_plain h0, memRead_plain h1, stackByte, ramRead_withBus, withBus_sw]

/-! ### The exception and the return from it (R293, R295) -/

/-- The state in which the exception reads its vector: all pushed, I set (R501). -/
def exceptionEntered (s : State) : State :=
  onCpu (Cpu.putFlag .I true) (push8 (pushedStatus s.cpu.p) (push16 s.cpu.pc s))

theorem takeException_eq (v : Word) (s : State) :
    takeException v s =
      onCpu (fun c => { c with pc := (memRead16 v (exceptionEntered s)).1 }) (memRead16 v (exceptionEntered s)).2 :=
  rfl

theorem exceptionEntered_cpu (s : State) :
    (exceptionEntered s).cpu = { s.cpu with sp := s.cpu.sp - 3, p := setFlag s.cpu.p .I true } := by
  have hsp : s.cpu.sp - 2 - 1 = s.cpu.sp - 3 := by bv_omega
  rw [exceptionEntered, onCpu_cpu, push8_cpu, push16_cpu, hsp]
  rfl

theorem mappedByte_exceptionEntered {a : Word} (ha : 0xE000 ≤ a.toNat) (s : State) :
    mappedByte (exceptionEntered s) a = mappedByte s a := by
  rw [exceptionEntered, mappedByte_onCpu, mappedByte_push8 ha, mappedByte_push16 ha]

/-- PC goes where the vector points under the mapping as it stands; SP is three lower and I is set. -/
theorem takeException_cpu (s : State) :
    (takeException brkVector s).cpu =
      { s.cpu with
        pc := wordOf (mappedByte s 0xFFFF) (mappedByte s 0xFFFE)
        sp := s.cpu.sp - 3
        p := setFlag s.cpu.p .I true } := by
  have hvector : (memRead16 brkVector (exceptionEntered s)).1 = wordOf (mappedByte s 0xFFFF) (mappedByte s 0xFFFE) := by
    rw [memRead16_plain_fst (by decide) (by decide), mappedByte_exceptionEntered (by decide),
      mappedByte_exceptionEntered (by decide)]
    rfl
  rw [takeException_eq, onCpu_cpu, hvector, (memRead16_frame _ _).cpu, exceptionEntered_cpu]

/-- The return address, high byte first, then P with B set (R293). -/
theorem stackByte_takeException (s : State) :
    stackByte (takeException brkVector s) s.cpu.sp = hiByte s.cpu.pc ∧
      stackByte (takeException brkVector s) (s.cpu.sp - 1) = loByte s.cpu.pc ∧
      stackByte (takeException brkVector s) (s.cpu.sp - 2) = s.cpu.p ||| 0x10 := by
  have hpushed (sp : Byte) : stackByte (takeException brkVector s) sp =
      stackByte (push8 (pushedStatus s.cpu.p) (push16 s.cpu.pc s)) sp := by
    rw [takeException_eq, stackByte_onCpu, stackByte_memRead16 (by decide) (by decide), exceptionEntered,
      stackByte_onCpu]
  have hsp : (push16 s.cpu.pc s).cpu.sp = s.cpu.sp - 2 := by rw [push16_cpu]
  obtain ⟨hhi, hlo⟩ := stackByte_push16 s.cpu.pc s
  refine ⟨?_, ?_, ?_⟩
  · rw [hpushed, stackByte_push8_ne _ (by rw [hsp]; bv_omega), hhi]
  · rw [hpushed, stackByte_push8_ne _ (by rw [hsp]; bv_omega), hlo]
  · rw [hpushed, ← hsp, stackByte_push8, pushedStatus]

/-- P, then PC as it stands on the stack. -/
theorem returnFromException_cpu (s : State) :
    (returnFromException s).cpu =
      { s.cpu with
        pc := wordOf (stackByte s (s.cpu.sp + 3)) (stackByte s (s.cpu.sp + 2))
        sp := s.cpu.sp + 3
        p := pulledStatus (stackByte s (s.cpu.sp + 1)) } := by
  have hlo : s.cpu.sp + 1 + 1 = s.cpu.sp + 2 := by bv_omega
  have hhi : s.cpu.sp + 1 + 2 = s.cpu.sp + 3 := by bv_omega
  have hsplit : returnFromException s =
      onCpu (fun c => { c with pc := (pull16 (pullP s)).1 }) (pull16 (pullP s)).2 := rfl
  have hbyte (sp : Byte) : stackByte (pullP s) sp = stackByte s sp := by
    rw [pullP, stackByte_onCpu, stackByte_pull8]
  rw [hsplit, onCpu_cpu, pull16_fst, pull16_cpu, hbyte, hbyte, pullP_cpu, hlo, hhi]

end Sys2Proof.Machine

namespace Sys2Proof.Proofs

open Sys2Proof.Machine

/-- Settles O7: the tick runs a BRK exactly where opcode $00 stands at PC, and only a BRK can halt. -/
theorem stepCompletesOrHalts : Obligations.StepCompletesOrHalts := by
  intro s
  have hparams : (fetch (beforeTick s)).2.params = s.params := (fetch_params _).trans (beforeTick_params s)
  constructor
  · rintro ⟨hmode, hop⟩
    obtain ⟨sig, hsig⟩ := (fetch_eq_brk_iff _).2 hop
    apply step_eq_fault_of_tick
    rw [tick, hsig]
    exact exec_brk_halt (by rw [hparams, hmode]) sig
  · intro hno
    rcases exec_next_or_halt (fetch (beforeTick s)).1 (fetch (beforeTick s)).2 with ⟨t, ht⟩ | ⟨hmode, hbrk⟩
    · exact completes_of_tick_next ht
    · exact absurd ⟨by rw [← hparams, hmode], (fetch_eq_brk_iff _).1 hbrk⟩ hno

/-- Settles O29: one push of A, one pull into A. -/
theorem pushPullAResult : Obligations.PushPullAResult :=
  fun _ => ⟨⟨_, rfl, push8_cpu _ _, stackByte_push8 _ _⟩, _, rfl, pullA_cpu _⟩

/-- Settles O30: one push of `pushedStatus`, one pull through `pulledStatus`. -/
theorem pushPullPResult : Obligations.PushPullPResult := by
  refine ⟨rfl, rfl, fun s => ⟨⟨_, rfl, push8_cpu _ _, stackByte_push8 _ _⟩, _, rfl, ?_⟩⟩
  rw [pullP_cpu]
  exact ⟨rfl, pulledStatus_flags _⟩

/-- Settles O31: the pull finds the byte pushed, and P survives the two changes of B and Unused. -/
theorem pushThenPull : Obligations.PushThenPull := by
  intro s t u hu
  constructor
  · rintro ⟨⟩
    obtain ⟨hsp, hbyte⟩ := hu.pull_of_push8
    refine ⟨_, rfl, ?_, ?_⟩
    · rw [pullA_cpu]; exact hbyte
    · rw [pullA_cpu]; exact hsp
  · rintro ⟨⟩ hp
    obtain ⟨hsp, hbyte⟩ := hu.pull_of_push8
    refine ⟨_, rfl, ?_, ?_⟩
    · rw [pullP_cpu, ← pulledStatus_pushedStatus hp]; exact congrArg pulledStatus hbyte
    · rw [pullP_cpu]; exact hsp

/-- Settles O33: the registers and the stack bytes from the exception, the rest from the frame of BRK. -/
theorem brkEntry : Obligations.BrkEntry := by
  refine fun sig => ⟨rfl, fun s hmode => ?_⟩
  have hexec := exec_brk_vector hmode sig
  obtain ⟨-, -, -, hframe⟩ := frameOfStack sig s
  obtain ⟨-, hram, hdev⟩ := hframe (.brk sig) (.head _) _ hexec
  obtain ⟨hhi, hlo, hstatus⟩ := stackByte_takeException (prepare .implied ⟨2, 7, 0⟩ 0 s)
  exact ⟨_, hexec, takeException_cpu _, hhi, hlo, hstatus, hram, hdev⟩

/-- Settles O34: P from the byte at the stack top, then the two bytes of PC. -/
theorem rtiResult : Obligations.RtiResult := by
  refine ⟨rfl, fun s => ⟨_, rfl, ?_⟩⟩
  rw [returnFromException_cpu]
  exact ⟨rfl, pulledStatus_flags _⟩

/-- Settles O32: Implied mode resolves without an access, and a flag's mask is a byte known beforehand. -/
theorem flagResult : Obligations.FlagResult := fun _ => ⟨rfl, rfl, rfl, rfl, rfl, rfl, rfl⟩

end Sys2Proof.Proofs
end

section
/-! SUPPORT. The undocumented opcodes as one no-operation each, and the operand reads of a tick
(spec/45_illegal_opcodes.md R300, R302). -/

namespace Sys2Proof.Machine

/-! ### The 105 forms (R153) -/

/-- The form is the no-operation of its opcode, with the format and the numbers of the opcode's table row. -/
structure UndocumentedShape.Agrees (u : UndocumentedShape) : Prop where
  opcode_instr : u.form.instr.opcode = u.opcode
  documented : (opRow u.opcode).documented = false
  direct : u.form.mode ≠ .indirect
  mode : (opRow u.opcode).mode = u.form.mode
  cost : (opRow u.opcode).cost = u.form.cost
  exec_eq : ∀ s, exec u.form.instr s =
    .next (undocumentedOp u.opcode u.form.mode u.form.cost u.form.operand s)

/-- Every form listed agrees with the table. -/
theorem undocumented_agrees (b : Byte) (w : Word) : ∀ u ∈ Forms.undocumented b w, u.Agrees := by
  intro u hu
  fin_cases hu <;> exact ⟨rfl, rfl, nofun, rfl, rfl, fun _ => rfl⟩

/-- The operand that `n` operand bytes make, of which `b1` is the first (R142). -/
def operandWord (n : Nat) (b1 b2 : Byte) : Word :=
  match n with
  | 0 => 0
  | 1 => zext16 b1
  | _ => wordOf b2 b1

/-- The forms with two given operand bytes are those that the decoder reads. -/
theorem undocumented_operands (b1 b2 : Byte) : ∀ u ∈ Forms.undocumented b1 (wordOf b2 b1),
    (opForm u.opcode).instr b1 b2 = u.form.instr ∧
      u.form.operand = operandWord (operandBytes u.form.mode) b1 b2 := by
  intro u hu
  fin_cases hu <;> exact ⟨rfl, rfl⟩

/-- The opcode bytes in rising order. -/
def opcodeBytes : List Byte := (List.finRange 256).map BitVec.ofFin

/-- Whatever the operands, the forms listed are those of the opcodes that the table marks undocumented, in rising
order. -/
theorem undocumented_opcodes (b : Byte) (w : Word) :
    (Forms.undocumented b w).map UndocumentedShape.opcode = opcodeBytes.filter fun op => !(opRow op).documented := by
  change (Forms.undocumented 0 0).map UndocumentedShape.opcode = _
  decide +kernel

theorem opcodeBytes_nodup : opcodeBytes.Nodup := (List.nodup_finRange 256).map fun _ _ => BitVec.ofFin.inj

theorem mem_opcodeBytes (op : Byte) : op ∈ opcodeBytes := List.mem_map.2 ⟨op.toFin, List.mem_finRange _, rfl⟩

theorem undocumented_nodup (b : Byte) (w : Word) :
    ((Forms.undocumented b w).map UndocumentedShape.opcode).Nodup := by
  rw [undocumented_opcodes]
  exact opcodeBytes_nodup.filter _

/-- An opcode that the table marks undocumented has its form in the list. -/
theorem exists_undocumented {op : Byte} (h : (opRow op).documented = false) (b : Byte) (w : Word) :
    ∃ u ∈ Forms.undocumented b w, u.opcode = op := by
  have hmem : op ∈ (Forms.undocumented b w).map UndocumentedShape.opcode := by
    rw [undocumented_opcodes]
    exact List.mem_filter.2 ⟨mem_opcodeBytes op, by rw [h]; rfl⟩
  exact List.mem_map.1 hmem

/-- What such an opcode runs, with the operand bytes that its format has (R153, R300). -/
theorem exec_undocumented {op : Byte} (h : (opRow op).documented = false) (b1 b2 : Byte) (s : State) :
    exec ((opForm op).instr b1 b2) s =
      .next (undocumentedOp op (opRow op).mode (opRow op).cost
        (operandWord (operandBytes (opRow op).mode) b1 b2) s) := by
  obtain ⟨u, hu, rfl⟩ := exists_undocumented h b1 (wordOf b2 b1)
  obtain ⟨-, -, -, hmode, hcost, hexec⟩ := undocumented_agrees _ _ u hu
  obtain ⟨hinstr, hoperand⟩ := undocumented_operands b1 b2 u hu
  rw [hinstr, hexec, hmode, hcost, hoperand]

/-! ### Resolving and preparing -/

theorem operandReads_le_operandBytes (m : Mode) : operandReads m ≤ operandBytes m := by
  cases m <;> decide

theorem operandBytes_le_two (m : Mode) : operandBytes m ≤ 2 := by
  cases m <;> decide

/-- No operand byte, a byte or a word (R144). -/
theorem operandReads_cases (m : Mode) : operandReads m = 0 ∨ operandReads m = 1 ∨ operandReads m = 2 := by
  cases m <;> decide

/-- Without a pointer to read, resolving makes no access. -/
theorem resolve_state {m : Mode} (hm : m ≠ .indirect) (hp : m ∉ [Mode.indexedIndirect, .indirectIndexed]) (w : Word)
    (s : State) : (resolve m w s).state = s := by
  cases m with
  | indirect => exact absurd rfl hm
  | indexedIndirect | indirectIndexed => exact absurd (by decide) hp
  | _ => rfl

/-- A mode that reads fewer than two operand bytes looks at the operand's low byte at most, and one that reads none
does not look at it. -/
theorem resolve_congr {m : Mode} {w v : Word} (h1 : operandReads m = 1 → loByte w = loByte v)
    (h2 : operandReads m = 2 → w = v) (s : State) : resolve m w s = resolve m v s := by
  cases m with
  | implied | accumulator | immediate => rfl
  | zeroPage | zeroPageX | zeroPageY | indexedIndirect | indirectIndexed | relative => simp only [resolve, h1 rfl]
  | absolute | absoluteX | absoluteY | indirect => rw [h2 rfl]

theorem prepare_eq_withCpu (m : Mode) (c : OpCost) (w : Word) (s : State) :
    prepare m c w s =
      withCpu (resolve m w s).state
        { s.cpu with
          al := (resolve m w s).al
          pc := s.cpu.pc + BitVec.ofNat 16 c.size
          cycleCount :=
            s.cpu.cycleCount + BitVec.ofNat 64 (c.cycles + if (resolve m w s).paged then c.pageCycles else 0) } := by
  rw [← prepare_cpu]
  rfl

/-! ### The operand reads of a tick (R143, R144) -/

/-- The state after `n` operand reads past the opcode at `pc`, low byte first, and the operand they make. -/
def readOperand (n : Nat) (pc : Word) (s : State) : Word × State :=
  let b1 := memRead (pc + 1) s
  let b2 := memRead (pc + 2) b1.2
  (operandWord n b1.1 b2.1,
    match n with
    | 0 => s
    | 1 => b1.2
    | _ => b2.2)

theorem readOperand_zero (pc : Word) (s : State) : readOperand 0 pc s = (0, s) := rfl

theorem readOperand_one (pc : Word) (s : State) :
    readOperand 1 pc s = (zext16 (memRead (pc + 1) s).1, (memRead (pc + 1) s).2) := rfl

theorem readOperand_two (pc : Word) (s : State) :
    readOperand 2 pc s =
      (wordOf (memRead (pc + 2) (memRead (pc + 1) s).2).1 (memRead (pc + 1) s).1,
        (memRead (pc + 2) (memRead (pc + 1) s).2).2) := rfl

/-- The state after the fetch is that after the opcode fetch and the operand reads. -/
theorem fetch_snd (s : State) :
    (fetch s).2 =
      (readOperand (fetchedBytes s.params (memRead s.cpu.pc s).1) s.cpu.pc (memRead s.cpu.pc s).2).2 := rfl

/-- What an undocumented opcode runs, in terms of the bytes after it (R153, R300). -/
theorem exec_fetch_undocumented {s t : State} {op : Byte} (hop : memRead s.cpu.pc s = (op, t))
    (h : (opRow op).documented = false) (u : State) :
    exec (fetch s).1 u =
      .next (undocumentedOp op (opRow op).mode (opRow op).cost
        (readOperand (operandBytes (opRow op).mode) s.cpu.pc t).1 u) := by
  rw [fetch, hop]
  exact exec_undocumented h _ _ u

/-- Where the instruction carries too few operand bytes, its meaning reads the rest, as if the fetch had. -/
theorem completeOperand_readOperand {m wanted : Mode} (h : operandBytes m < operandReads wanted) (s : State) :
    completeOperand m wanted (readOperand (operandBytes m) s.cpu.pc s).1 (readOperand (operandBytes m) s.cpu.pc s).2 =
      readOperand (operandReads wanted) s.cpu.pc s := by
  have hcases := operandReads_cases wanted
  obtain ⟨hm, hw⟩ | ⟨hm, hw⟩ | ⟨hm, hw⟩ : operandBytes m = 0 ∧ operandReads wanted = 1 ∨
      operandBytes m = 0 ∧ operandReads wanted = 2 ∨ operandBytes m = 1 ∧ operandReads wanted = 2 := by omega
  · simp [completeOperand, hm, hw, readOperand_zero, readOperand_one]
  · simp [completeOperand, hm, hw, readOperand_zero, readOperand_two, memRead16, BitVec.add_assoc]
  · simp [completeOperand, hm, hw, readOperand_one, readOperand_two]

/-- Where it carries enough, those the mode does not read make no difference. -/
theorem resolve_readOperand {m : Mode} {n : Nat} (h : operandReads m ≤ n) (hn : n ≤ 2) (pc : Word) (s t : State) :
    resolve m (readOperand n pc s).1 t = resolve m (readOperand (operandReads m) pc s).1 t := by
  apply resolve_congr
  · intro hm
    obtain rfl | rfl : n = 1 ∨ n = 2 := by omega
    · rw [hm]
    · rw [hm, readOperand_one, readOperand_two, loByte_zext16, loByte_wordOf]
  · intro hm
    obtain rfl : n = 2 := by omega
    rw [hm]

/-- So the reads of a tick are as many as the mode has operand bytes, whatever the format carries. -/
theorem prepare_completeOperand_readOperand {m wanted : Mode} {s : State} {o : Word × State}
    (ho : completeOperand m wanted (readOperand (operandBytes m) s.cpu.pc s).1
      (readOperand (min (operandReads wanted) (operandBytes m)) s.cpu.pc s).2 = o) (c : OpCost) :
    prepare wanted c o.1 o.2 =
      prepare wanted c (readOperand (operandReads wanted) s.cpu.pc s).1
        (readOperand (operandReads wanted) s.cpu.pc s).2 := by
  subst ho
  by_cases h : operandReads wanted ≤ operandBytes m
  · rw [Nat.min_eq_left h, completeOperand_eq h, prepare, resolve_readOperand h (operandBytes_le_two m), prepare]
  · have hlt := Nat.lt_of_not_le h
    rw [Nat.min_eq_right hlt.le, completeOperand_readOperand hlt]

/-- A tick on an undocumented opcode: the opcode fetch, the operand reads of the entry's mode, and the operand
resolved, PC advanced and the cycles counted (R300, R302). -/
theorem tick_undocumented {s t : State} {op : Byte} (hop : memRead s.cpu.pc s = (op, t))
    (h : (opRow op).documented = false) {e : IllegalEntry}
    (he : illegalEntry s.params op ⟨(opRow op).mode, (opRow op).cost⟩ = e) :
    tick s =
      .next (prepare e.mode e.cost (readOperand (operandReads e.mode) s.cpu.pc t).1
        (readOperand (operandReads e.mode) s.cpu.pc t).2) := by
  have hcpu : t.cpu = s.cpu := by rw [← memRead_cpu s.cpu.pc s, hop]
  have hstate : (fetch s).2 =
      (readOperand (min (operandReads e.mode) (operandBytes (opRow op).mode)) s.cpu.pc t).2 := by
    rw [fetch_snd, hop, fetchedBytes, h, he]
    rfl
  rw [tick, exec_fetch_undocumented hop h, undocumentedOp, fetch_params, he, hstate, ← hcpu]
  exact congrArg _ (prepare_completeOperand_readOperand rfl e.cost)

end Sys2Proof.Machine

namespace Sys2Proof.Proofs

open Sys2Proof.Machine

/-- Settles O36: each opcode listed through `prepare`, and the tick through the operand reads. -/
theorem undocumentedResult : Obligations.UndocumentedResult := by
  refine ⟨fun b w => ⟨undocumented_nodup b w, rfl, fun s u hu => ?_⟩, fun s => ?_⟩
  · obtain ⟨hopcode, hdoc, hdirect, -, -, hexec⟩ := undocumented_agrees b w u hu
    intro e o r t
    obtain ⟨hb, hm, hx⟩ : BusFrame s o.2 ∧ o.2.main = s.main ∧ o.2.aux = s.aux := completeOperand_frame ..
    have ht : prepare e.mode e.cost o.1 o.2 = t := by rw [prepare_eq_withCpu, hb.cpu]
    have hcarried (h : operandReads e.mode ≤ operandBytes u.form.mode) : o = (u.form.operand, s) :=
      completeOperand_eq h u.form.operand s
    clear_value t
    subst ht
    refine ⟨hopcode, hdoc, hexec s, .of_eq ((prepare_main ..).trans hm) ((prepare_aux ..).trans hx),
      (SameSurroundings.of_busFrame hb).trans (prepare_surroundings ..), fun h1 h2 hi => ?_, hcarried, fun h => ?_⟩
    · exact (completeOperand_devices _ _ _ s h1 h2).trans (prepare_devices _ _ _ _ hi)
    · have ho := hcarried (by rw [h]; exact operandReads_le_operandBytes _)
      rw [ho, h]
      refine ⟨prepare_devices _ _ _ s fun hi => absurd hi hdirect, fun hp => ?_⟩
      rw [prepare, advance_bus, resolve_state hdirect hp]
  · intro op b1 b2 e h
    refine (tick_undocumented (op := op.1) (t := op.2) (e := e) rfl h rfl).trans ?_
    obtain hn | hn | hn := operandReads_cases e.mode
    · rw [hn, readOperand_zero]
      rfl
    · rw [hn, readOperand_one]
      rfl
    · rw [hn, readOperand_two]
      rfl

end Sys2Proof.Proofs
end

section
/-! SUPPORT. The sector record and its data field, byte by byte (spec/46_disk2_gcr.md R421 to R428). -/

namespace Sys2Proof.Machine

/-! ### The six-bit values -/

/-- The three bit pairs of a value `q[0..85]`, lowest first (R427). -/
theorem bitPairs_append : ∀ x y z : BitVec 2,
    ((x ++ y ++ z : BitVec 6) >>> 0).setWidth 2 = z ∧ ((x ++ y ++ z : BitVec 6) >>> 2).setWidth 2 = y ∧
      ((x ++ y ++ z : BitVec 6) >>> 4).setWidth 2 = x := by
  decide

/-- A byte is its upper six bits and, swapped back, its swapped lower two (R428). -/
theorem upperBits_append_rev2_rev2 : ∀ b : Byte, b.extractLsb' 2 6 ++ rev2 ((rev2 b).setWidth 8) = b := by decide

section
variable (d : Nat → Byte) {j : Nat}

theorem sixBit_low (h : j ≤ 85) :
    sixBit d j = (if j ≤ 83 then rev2 (d (j + 172)) else spareBits) ++ rev2 (d (j + 86)) ++ rev2 (d j) := if_pos h

theorem sixBit_high (i : Nat) : sixBit d (86 + i) = (d i).extractLsb' 2 6 := by
  unfold sixBit
  rw [if_neg (by omega), Nat.add_sub_cancel_left]

end

/-- Pair `i / 86` of `q[i % 86]` holds the lower two bits of data byte `i`, swapped (R427). -/
theorem sixBit_pair (d : Nat → Byte) {i : Nat} (h : i < 256) :
    (sixBit d (i % 86) >>> (2 * (i / 86))).setWidth 2 = rev2 (d i) := by
  rw [sixBit_low d (by omega)]
  obtain ⟨hz, hy, hx⟩ := bitPairs_append (if i % 86 ≤ 83 then rev2 (d (i % 86 + 172)) else spareBits)
    (rev2 (d (i % 86 + 86))) (rev2 (d (i % 86)))
  have hq : i / 86 = 0 ∨ i / 86 = 1 ∨ i / 86 = 2 := by omega
  obtain hq | hq | hq := hq <;> rw [hq]
  · rw [hz, show i % 86 = i by omega]
  · rw [hy, show i % 86 + 86 = i by omega]
  · rw [hx, if_pos (by omega), show i % 86 + 172 = i by omega]

/-! ### The data field read back (R428) -/

section
variable {d inp : Nat → Byte} (h : ∀ k < 343, inp k = dataField d k)
include h

theorem dataFieldGood_dataField : dataFieldGood inp = true := by
  have hlast : recoverSixBit inp 342 = sixBit d 341 ^^^ sixBit d 341 := by
    rw [recoverSixBit_succ, recoverSixBit_dataField d inp h 341 (by decide), h 342 (by decide), dataField_last,
      untranslate62_translate62, Option.getD_some]
  rw [dataFieldGood, hlast, BitVec.xor_self]
  rfl

theorem recoverByte_dataField {i : Nat} (hi : i < 256) : recoverByte inp i = d i := by
  unfold recoverByte
  simp only
  rw [recoverSixBit_dataField d inp h (i % 86) (by omega), recoverSixBit_dataField d inp h (86 + i) (by omega),
    sixBit_pair d hi, sixBit_high, upperBits_append_rev2_rev2]

end

/-! ### The sector record -/

/-- The data field stands at offset 70 of the record (R423). -/
theorem sectorByte_data (vol trk sec : Byte) (d : Nat → Byte) {k : Nat} (h : k < 343) :
    sectorByte vol trk sec d (70 + k) = dataField d k := by
  unfold sectorByte
  iterate 13 rw [if_neg (by omega)]
  rw [if_pos (by omega), Nat.add_sub_cancel_left]

/-- The same in the track stream, the offset `k` counted from `base` within the record. -/
theorem trackStream_sector_from (base : Nat) (vol : Byte) (img : DiskImage) (t : Nat) {sec k : Nat} (hs : sec < 16)
    (hk : base + k < 416) :
    (trackStream vol img t).getD (sec * 416 + base + k) 0 =
      sectorByte vol (BitVec.ofNat 8 t) (BitVec.ofNat 8 sec) (fun i => img.byte (sectorOffset t sec i)) (base + k) := by
  rw [Nat.add_assoc, trackStream_sector vol img t hs hk]

/-- The interleave reaches every one of the sixteen sectors (R422). -/
theorem interleave_surjective : ∀ p < 16, ∃ sec < 16, interleave.getD sec 0 = p := by decide

/-- Every byte of the image is a data byte of some sector record (R422, R433). -/
theorem sectorOffset_surjective {j : Nat} (h : j < 143360) :
    ∃ t < 35, ∃ sec < 16, ∃ i < 256, sectorOffset t sec i = j := by
  obtain ⟨sec, hsec, hp⟩ := interleave_surjective (j / 256 % 16) (by omega)
  refine ⟨j / 4096, by omega, sec, hsec, j % 256, by omega, ?_⟩
  rw [sectorOffset, hp]
  omega

/-! ### Bit 7 (R421) -/

/-- Every byte of the marks before the address field, before the data field and after either (R423). -/
theorem markByte_bit7 : ∀ mark ∈ ([[0xD5, 0xAA, 0x96], [0xD5, 0xAA, 0xAD], [0xDE, 0xAA, 0xEB]] : List (List Byte)),
    ∀ k < 3, (mark.getD k 0).getLsbD 7 = true := by
  decide

theorem dataField_bit7 (d : Nat → Byte) (k : Nat) : (dataField d k).getLsbD 7 = true := by
  unfold dataField
  split_ifs <;> exact translate62_bit7 _

theorem ite_bit7 {c : Prop} [Decidable c] {x y : Byte} (hx : c → x.getLsbD 7 = true)
    (hy : ¬c → y.getLsbD 7 = true) : (if c then x else y).getLsbD 7 = true :=
  iteInduction (motive := fun b : Byte => b.getLsbD 7 = true) hx hy

/-- Range by range of the record: a gap, a mark, an address byte or a data byte (R423). -/
theorem sectorByte_bit7 (vol trk sec : Byte) (d : Nat → Byte) {off : Nat} (h : off < 416) :
    (sectorByte vol trk sec d off).getLsbD 7 = true := by
  unfold sectorByte
  refine ite_bit7 (fun _ => rfl) fun _ => ite_bit7 (fun _ => markByte_bit7 _ (by simp) _ (by omega)) fun _ => ?_
  refine ite_bit7 (fun _ => (encode44_bit7 vol).1) fun _ => ite_bit7 (fun _ => (encode44_bit7 vol).2) fun _ =>
    ite_bit7 (fun _ => (encode44_bit7 trk).1) fun _ => ite_bit7 (fun _ => (encode44_bit7 trk).2) fun _ =>
    ite_bit7 (fun _ => (encode44_bit7 sec).1) fun _ => ite_bit7 (fun _ => (encode44_bit7 sec).2) fun _ =>
    ite_bit7 (fun _ => (encode44_bit7 _).1) fun _ => ite_bit7 (fun _ => (encode44_bit7 _).2) fun _ => ?_
  refine ite_bit7 (fun _ => markByte_bit7 _ (by simp) _ (by omega)) fun _ => ite_bit7 (fun _ => rfl) fun _ => ?_
  exact ite_bit7 (fun _ => markByte_bit7 _ (by simp) _ (by omega)) fun _ =>
    ite_bit7 (fun _ => dataField_bit7 d _) fun _ => markByte_bit7 _ (by simp) _ (by omega)

end Sys2Proof.Machine

namespace Sys2Proof.Proofs

open Sys2Proof.Machine

/-- Settles O53: the address field by the 4-and-4 code, the data field by the six-bit values recovered from it. -/
theorem gcrRoundTrip : Obligations.GcrRoundTrip := by
  intro vol img
  refine ⟨fun t _ => by simp [trackStream], fun t _ sec hs => ?_, fun j hj => sectorOffset_surjective hj⟩
  intro field data
  have hfield {k : Nat} (hk : 51 + k < 416) := trackStream_sector_from 51 vol img t hs hk
  have hdata (k : Nat) (hk : k < 343) : data k = dataField (fun i => img.byte (sectorOffset t sec i)) k :=
    (trackStream_sector_from 70 vol img t hs (by omega)).trans (sectorByte_data _ _ _ _ hk)
  have hpair {k : Nat} (v : Byte) (hk : k < 8) (h1 : field k = (encode44 v).1) (h2 : field (k + 1) = (encode44 v).2) :
      decode44 (field k) (field (k + 1)) = v := by rw [h1, h2, decode44_encode44]
  exact ⟨hpair vol (by decide) (hfield (by decide)) (hfield (by decide)),
    hpair (BitVec.ofNat 8 t) (by decide) (hfield (by decide)) (hfield (by decide)),
    hpair (BitVec.ofNat 8 sec) (by decide) (hfield (by decide)) (hfield (by decide)),
    hpair (vol ^^^ BitVec.ofNat 8 t ^^^ BitVec.ofNat 8 sec) (by decide) (hfield (by decide)) (hfield (by decide)),
    dataFieldGood_dataField hdata, fun i hi => recoverByte_dataField hdata hi⟩

/-- Settles O54: a position of the stream is an offset below 416 in a sector record. -/
theorem trackBytesHaveBit7 : Obligations.TrackBytesHaveBit7 := by
  intro vol img t _ b hb
  obtain ⟨pos, _, rfl⟩ := List.mem_map.1 hb
  exact sectorByte_bit7 _ _ _ _ (Nat.mod_lt pos (by decide))

end Sys2Proof.Proofs
end

section
/-! SUPPORT. The switches of the disk controller, access by access (spec/46_disk2_gcr.md R400 to R413). -/

namespace Sys2Proof.Machine

/-! ### One access -/

/-- Driving the data lines leaves the transition's change of the controller and of fast mode (R402). -/
theorem diskAccess_controller (a : Word) (s : State) :
    (diskAccess a s).disk = (diskTransition (a.toNat % 16) s).disk ∧
      (diskAccess a s).bus.fastMode = (diskTransition (a.toNat % 16) s).bus.fastMode := by
  unfold diskAccess
  simp only
  split <;> exact ⟨rfl, rfl⟩

/-- The transition looks at no bus line but fast mode (R400). -/
theorem diskTransition_withBus (n : Nat) (s : State) (a : Word) (v : Byte) (rw : Rw) :
    (diskTransition n (withBus s a v rw)).disk = (diskTransition n s).disk ∧
      (diskTransition n (withBus s a v rw)).bus.fastMode = (diskTransition n s).bus.fastMode := by
  unfold diskTransition
  split <;> exact ⟨rfl, rfl⟩

section
variable {n : Nat} (h : n < 16)
include h

/-- A read and a write change the controller and fast mode alike, by the transition of the address (R400, R402). -/
theorem accesses_disk {s t : State} {v : Byte} (ht : t ∈ accesses (BitVec.ofNat 16 (0xC0E0 + n)) v s) :
    t.disk = (diskTransition n s).disk ∧ t.bus.fastMode = (diskTransition n s).bus.fastMode := by
  obtain ⟨u, rw, rfl⟩ : ∃ u rw, t = diskAccess (BitVec.ofNat 16 (0xC0E0 + n))
      (withBus s (BitVec.ofNat 16 (0xC0E0 + n)) u rw) := by
    rw [accesses, memRead_disk h, memWrite_disk h] at ht
    obtain rfl | rfl := List.mem_pair.1 ht
    · exact ⟨0, .read, rfl⟩
    · exact ⟨v, .write, rfl⟩
  obtain ⟨hdisk, hfast⟩ := diskAccess_controller (BitVec.ofNat 16 (0xC0E0 + n))
    (withBus s (BitVec.ofNat 16 (0xC0E0 + n)) u rw)
  have hn : (BitVec.ofNat 16 (0xC0E0 + n)).toNat % 16 = n := by rw [diskAddr_toNat h]; omega
  rw [hn] at hdisk hfast
  obtain ⟨hdisk', hfast'⟩ := diskTransition_withBus n s (BitVec.ofNat 16 (0xC0E0 + n)) u rw
  exact ⟨hdisk.trans hdisk', hfast.trans hfast'⟩

/-- A read returns the latch where the controller drives the data lines, and 0 elsewhere (R407). -/
theorem memRead_disk_fst (s : State) :
    (memRead (BitVec.ofNat 16 (0xC0E0 + n)) s).1 = if drivesData n then s.disk.dataLatch else 0 := by
  rw [memRead_disk h]

end

/-! ### The stepper (R403, R404) -/

/-- A phase-off address does nothing (R403). -/
theorem diskTransition_phaseOff {k : Nat} (h : k < 4) (s : State) : diskTransition (2 * k) s = s := by
  interval_cases k <;> rfl

theorem diskTransition_phaseOn (n : Fin 4) (s : State) :
    diskTransition (1 + 2 * n.val) s = { s with disk := phaseChange n s.disk } := by
  fin_cases n <;> rfl

theorem trackUp_val (t : Fin 35) : (trackUp t).val = min (t.val + 1) 34 := by
  unfold trackUp
  split
  · exact (Nat.min_eq_left (by omega)).symm
  · exact (by omega : t.val = min (t.val + 1) 34)

/-- The two neighbours of a phase, as numbers modulo 4. -/
theorem phase_neighbours : ∀ p n : Fin 4,
    (p = n - 1 ↔ p.val = (n.val + 3) % 4) ∧ (p = n + 1 ↔ p.val = (n.val + 1) % 4) := by
  decide

/-- Inward from the phase before, outward from the phase after, and not otherwise (R404). -/
theorem phaseChange_track (n : Fin 4) (d : Disk) :
    (phaseChange n d).track.val =
      if d.phase.val = (n.val + 3) % 4 then min (d.track.val + 1) 34
      else if d.phase.val = (n.val + 1) % 4 then d.track.val - 1
      else d.track.val := by
  obtain ⟨hbefore, hafter⟩ := phase_neighbours d.phase n
  unfold phaseChange
  simp only [hbefore, hafter, apply_ite Fin.val, trackUp_val]
  rfl

/-! ### The read pulse (R411) -/

/-- With Q6 and Q7 clear, the motor on and a diskette in the selected drive, the pulse loads the next stream byte. -/
theorem readPulse_loads {d : Disk} {img : DiskImage} (hsel : selectedDisk d = some img) (h6 : d.q6 = false)
    (h7 : d.q7 = false) (hm : d.motorOn = true) (vol : Byte) :
    readPulse vol d =
      { d with
        dataLatch := (trackStream vol img d.track.val).getD d.pos.val 0
        pos := posNext d.pos
        q6 := false } := by
  unfold readPulse
  rw [hsel, trackStream_getD vol img d.track.val d.pos.isLt]
  exact if_pos (by simp [h6, h7, hm])

/-- Otherwise it loads 0, and the stream does not move. -/
theorem readPulse_clears {d : Disk}
    (h : selectedDisk d = none ∨ d.q6 = true ∨ d.q7 = true ∨ d.motorOn = false) (vol : Byte) :
    readPulse vol d = { d with dataLatch := 0, q6 := false } := by
  unfold readPulse
  cases hsel : selectedDisk d with
  | none => rfl
  | some img =>
    obtain hnone | h6 | h7 | hm := h
    · exact absurd (hsel.symm.trans hnone) nofun
    · exact if_neg (by simp [h6])
    · exact if_neg (by simp [h7])
    · exact if_neg (by simp [hm])

end Sys2Proof.Machine

namespace Sys2Proof.Proofs

open Sys2Proof.Machine

/-- Settles O51: each access makes the transition of its address, which for a phase is the stepper's. -/
theorem diskSwitches : Obligations.DiskSwitches := by
  intro s v
  refine ⟨fun k hk t ht => ?_, fun n t ht => ?_, fun t ht => accesses_disk (n := 0x8) (by decide) ht,
    fun t ht => (accesses_disk (n := 0xA) (by decide) ht).1, fun t ht => (accesses_disk (n := 0xB) (by decide) ht).1⟩
  · have hdisk := (accesses_disk (n := 2 * k) (by omega) ht).1
    rwa [diskTransition_phaseOff hk] at hdisk
  · have ha : 0xC0E1 + 2 * n.val = 0xC0E0 + (1 + 2 * n.val) := by omega
    rw [ha] at ht
    have hdisk := (accesses_disk (by omega) ht).1
    rw [diskTransition_phaseOn] at hdisk
    rw [hdisk]
    exact ⟨rfl, phaseChange_track n s.disk⟩

/-- Settles O52: the pulse by its two cases, the other switches by their transitions, the values read by the addresses
that drive the data lines. -/
theorem readPulse : Obligations.ReadPulse := by
  intro s v d img
  refine ⟨memRead_disk_fst (n := 0xC) (by decide) s, fun t ht => ?_, fun t ht => ?_,
    fun t ht => (accesses_disk (n := 0xD) (by decide) ht).1, fun t ht => (accesses_disk (n := 0xE) (by decide) ht).1,
    fun t ht => (accesses_disk (n := 0xF) (by decide) ht).1, fun n hn => ?_, fun n hn => ?_⟩
  · have hpulse : t.disk = Machine.readPulse s.params.volume d := (accesses_disk (n := 0xC) (by decide) ht).1
    exact ⟨fun i hi h6 h7 hm => hpulse.trans (readPulse_loads hi h6 h7 hm _),
      fun h => hpulse.trans (readPulse_clears h _)⟩
  · obtain ⟨hdisk, hfast⟩ := accesses_disk (n := 0x9) (by decide) ht
    refine ⟨hdisk, hfast.trans ?_⟩
    exact (by simp [anyDisk] : (if anyDisk d then true else s.bus.fastMode) = (anyDisk d || s.bus.fastMode))
  · obtain ⟨h16, hdrives⟩ : n < 16 ∧ drivesData n = true := by fin_cases hn <;> decide
    rw [memRead_disk_fst h16, if_pos hdrives]
  · obtain ⟨h16, hdrives⟩ : n < 16 ∧ drivesData n = false := by fin_cases hn <;> decide
    rw [memRead_disk_fst h16, hdrives]
    rfl

end Sys2Proof.Proofs
end

section
/-! SUPPORT. The picture (spec/47_video_rasterizer.md R450 to R472): the addresses the rasterizer reads, what it draws
from two memories that agree there, and the nibbles of lo-res. -/

namespace Sys2Proof.Machine

/-! ### The addresses the rasterizer reads -/

/-- The addresses of the display pages (R472). -/
def OnDisplayPage (a : Nat) : Prop := (0x0400 ≤ a ∧ a ≤ 0x0BFF) ∨ (0x2000 ≤ a ∧ a ≤ 0x5FFF)

/-- Where a picture starts: at a text page, or in hi-res graphics at a hi-res page (R452). -/
theorem startAddr_cases (sw : Switches) :
    (sw.text = false ∧ sw.hires = true) ∧ (startAddr sw = 0x2000 ∨ startAddr sw = 0x4000) ∨
      ¬(sw.text = false ∧ sw.hires = true) ∧ (startAddr sw = 0x0400 ∨ startAddr sw = 0x0800) := by
  unfold startAddr
  cases sw.text <;> cases sw.hires <;> cases (sw.page2 && !sw.store80) <;> decide

/-- A text row's 40 bytes lie within 1 KiB of its page's start (R455). -/
theorem rowOffset_add_lt {r c : Nat} (hr : r < 24) (hc : c < 40) : rowOffset r + c < 0x400 := by
  unfold rowOffset
  omega

section
variable (s : State) {r c : Nat} (hr : r < 24) (hc : c < 40)
include hr hc

theorem loresCell_onDisplayPage : OnDisplayPage ((gpuMemory s).startAddr + rowOffset r + c) := by
  have hrow := rowOffset_add_lt hr hc
  have hstart : (gpuMemory s).startAddr = startAddr s.sw := rfl
  unfold OnDisplayPage
  obtain ⟨-, h⟩ | ⟨-, h⟩ := startAddr_cases s.sw <;> omega

/-- In mixed hi-res the rewound base is $0400 or $2400 (R469). -/
theorem textCell_onDisplayPage : OnDisplayPage (textBase (gpuMemory s) + rowOffset r + c) := by
  obtain ⟨⟨ht, hh⟩, h⟩ | ⟨hmode, -⟩ := startAddr_cases s.sw
  · have hrow := rowOffset_add_lt hr hc
    have hbase : textBase (gpuMemory s) = startAddr s.sw - 0x1C00 := if_pos (by simp [gpuMemory, ht, hh])
    unfold OnDisplayPage
    omega
  · have hbase : textBase (gpuMemory s) = (gpuMemory s).startAddr := if_neg (by simpa [gpuMemory] using hmode)
    rw [hbase]
    exact loresCell_onDisplayPage s hr hc

end

theorem hiresCell_onDisplayPage {s : State} (hmode : s.sw.text = false ∧ s.sw.hires = true) {line c : Nat}
    (hl : line < 192) (hc : c < 40) : OnDisplayPage (hiresLineAddr (gpuMemory s) line + c) := by
  have hrow : rowOffset (line / 8) + c < 0x400 := rowOffset_add_lt (by omega) hc
  have haddr : hiresLineAddr (gpuMemory s) line = startAddr s.sw + rowOffset (line / 8) + line % 8 * 0x400 := rfl
  unfold OnDisplayPage
  obtain ⟨-, h⟩ | ⟨hnot, -⟩ := startAddr_cases s.sw
  · omega
  · exact absurd hmode hnot

/-- A row drawn as hi-res graphics is not under TEXT, and HIRES is on (R456). -/
theorem hires_of_displayMode {g : Gpu} {r : Nat} (h : displayMode g r = .hires40 ∨ displayMode g r = .doubleHires) :
    g.text = false ∧ g.hires = true := by
  unfold displayMode at h
  split at h
  · split at h <;> simp at h
  next hgraphics =>
    split at h
    next hh => exact ⟨Bool.eq_false_iff.2 fun ht => hgraphics (by simp [ht]), hh⟩
    next => split at h <;> simp at h

/-! ### Two memories that agree on the display pages give one picture -/

/-- The two memories hold the same bytes on the display pages. -/
def SamePages (m n : Memory) : Prop := ∀ a, OnDisplayPage a → m.read a = n.read a

/-- The hand-off `g` with other RAM. -/
def Gpu.withRam (g : Gpu) (p q : Memory) : Gpu := { g with primary := p, secondary := q }

section
variable {g : Gpu} {p q : Memory} (hp : SamePages p g.primary) (hq : SamePages q g.secondary)
include hp

theorem text40Pixel_withRam (rs : RenderSettings) {line x : Nat}
    (h : OnDisplayPage (textBase g + rowOffset (line / 8) + x / 14)) :
    text40Pixel rs (g.withRam p q) line x = text40Pixel rs g line x :=
  congrArg (glyphDot rs · (line % 8) (x % 14 / 2)) (hp _ h)

theorem lores40Pixel_withRam {line x : Nat} (h : OnDisplayPage (g.startAddr + rowOffset (line / 8) + x / 14)) :
    lores40Pixel (g.withRam p q) line x = lores40Pixel g line x :=
  congrArg (loresNibble · line) (hp _ h)

section
variable {line : Nat} (hpage : ∀ c < 40, OnDisplayPage (hiresLineAddr g line + c))
include hpage

theorem hiresByte_withRam {d : Nat} (hd : d < 280) : hiresByte (g.withRam p q) line d = hiresByte g line d :=
  hp _ (hpage _ (by omega))

theorem hiresLit_withRam (d : Nat) : hiresLit (g.withRam p q) line d = hiresLit g line d := by
  unfold hiresLit
  by_cases hd : d < 280
  · rw [hiresByte_withRam hp hpage hd]
  · simp [hd]

theorem hires40Pixel_withRam (rs : RenderSettings) {x : Nat} (hx : x < 560) :
    hires40Pixel rs (g.withRam p q) line x = hires40Pixel rs g line x := by
  have hd : x / 2 < 280 := by omega
  unfold hires40Pixel hiresColor hiresLitLeft
  rw [hiresByte_withRam hp hpage hd, hiresLit_withRam hp hpage (x / 2), hiresLit_withRam hp hpage (x / 2 - 1),
    hiresLit_withRam hp hpage (x / 2 + 1)]

end

include hq

theorem text80Pixel_withRam (rs : RenderSettings) {line x : Nat}
    (h : OnDisplayPage (textBase g + rowOffset (line / 8) + x / 14)) :
    text80Pixel rs (g.withRam p q) line x = text80Pixel rs g line x :=
  congrArg₂
    (fun b b' => if x % 14 < 7 then glyphDot rs b (line % 8) (x % 14) else glyphDot rs b' (line % 8) (x % 14 - 7))
    (hp _ h) (hq _ h)

theorem lores80Pixel_withRam {line x : Nat} (h : OnDisplayPage (g.startAddr + rowOffset (line / 8) + x / 14)) :
    lores80Pixel (g.withRam p q) line x = lores80Pixel g line x :=
  congrArg₂ (fun b b' => loresNibble (if x % 14 < 7 then b else b') line) (hp _ h) (hq _ h)

section
variable {line : Nat} (hpage : ∀ c < 40, OnDisplayPage (hiresLineAddr g line + c))
include hpage

theorem dhrBit_withRam {x : Nat} (hx : x < 560) : dhrBit (g.withRam p q) line x = dhrBit g line x :=
  have h := hpage (x / 14) (by omega)
  congrArg₂ (fun b b' : Byte => if x % 14 < 7 then b.getLsbD (x % 14) else b'.getLsbD (x % 14 - 7)) (hq _ h) (hp _ h)

theorem dhrBlock_withRam {j : Nat} (hj : j < 140) : dhrBlock (g.withRam p q) line j = dhrBlock g line j := by
  have hbit : ∀ x < 4 * j + 4, dhrBit (g.withRam p q) line x = dhrBit g line x := fun x hx =>
    dhrBit_withRam hp hq hpage (by omega)
  unfold dhrBlock
  rw [hbit (4 * j + 3) (by omega), hbit (4 * j + 2) (by omega), hbit (4 * j + 1) (by omega), hbit (4 * j) (by omega)]

/-- The blocks left of column 0 and right of column 559 are 0, so no address past the line is read (R468). -/
theorem dhrPixel_withRam (rs : RenderSettings) {x : Nat} (hx : x < 560) :
    dhrPixel rs (g.withRam p q) line x = dhrPixel rs g line x := by
  have hcur := dhrBlock_withRam hp hq hpage (j := x / 4) (by omega)
  have hprev := dhrBlock_withRam hp hq hpage (j := x / 4 - 1) (by omega)
  have hnext : (if x / 4 = 139 then 0 else dhrBlock (g.withRam p q) line (x / 4 + 1)) =
      if x / 4 = 139 then 0 else dhrBlock g line (x / 4 + 1) := by
    split
    · rfl
    · exact dhrBlock_withRam hp hq hpage (by omega)
  simp only [dhrPixel, hcur, hprev, hnext]

end

end

/-- Every mode reads the display pages alone. -/
theorem linePixel_withRam (rs : RenderSettings) (s : State) {p q : Memory} (hp : SamePages p (gpuMemory s).primary)
    (hq : SamePages q (gpuMemory s).secondary) {line x : Nat} (hl : line < 192) (hx : x < 560) :
    linePixel rs ((gpuMemory s).withRam p q) line x = linePixel rs (gpuMemory s) line x := by
  have htext := textCell_onDisplayPage s (r := line / 8) (c := x / 14) (by omega) (by omega)
  have hlores := loresCell_onDisplayPage s (r := line / 8) (c := x / 14) (by omega) (by omega)
  have hmode : displayMode ((gpuMemory s).withRam p q) (line / 8) = displayMode (gpuMemory s) (line / 8) := rfl
  unfold linePixel
  rw [hmode]
  cases hm : displayMode (gpuMemory s) (line / 8) with
  | text40 => exact text40Pixel_withRam hp rs htext
  | text80 => exact text80Pixel_withRam hp hq rs htext
  | lores40 => exact lores40Pixel_withRam hp hlores
  | lores80 => exact lores80Pixel_withRam hp hq hlores
  | hires40 =>
    exact hires40Pixel_withRam hp (fun _ => hiresCell_onDisplayPage (hires_of_displayMode (.inl hm)) hl) rs hx
  | doubleHires =>
    exact dhrPixel_withRam hp hq (fun _ => hiresCell_onDisplayPage (hires_of_displayMode (.inr hm)) hl) rs hx

theorem render_withRam (rs : RenderSettings) (s : State) {p q : Memory} (hp : SamePages p (gpuMemory s).primary)
    (hq : SamePages q (gpuMemory s).secondary) : render rs ((gpuMemory s).withRam p q) = render rs (gpuMemory s) := by
  refine List.map_congr_left fun y hy => List.map_congr_left fun x hx => ?_
  rw [List.mem_range] at hy hx
  have hindex := linePixel_withRam rs s hp hq (line := y / 2) (by omega) hx
  exact congrArg (fun i : BitVec 4 => rs.palette.getD i.toNat ⟨0, 0, 0, 0⟩) hindex

/-- The exchange (R453) is of the arrays alone. -/
theorem gpuMemory_withRam (s : State) (main aux : Memory) :
    gpuMemory { s with main := main, aux := aux } =
      (gpuMemory s).withRam (if exchanged s.sw then aux else main) (if exchanged s.sw then main else aux) := rfl

/-! ### The nibbles of lo-res -/

theorem loresNibble_toNat (b : Byte) (line : Nat) :
    (loresNibble b line).toNat = if line % 8 < 4 then b.toNat % 16 else b.toNat / 16 := by
  unfold loresNibble
  split
  · simp
  · have := b.isLt
    simp [Nat.shiftRight_eq_div_pow]
    omega

theorem linePixel_of_lores40 (rs : RenderSettings) {g : Gpu} {line : Nat} (h : displayMode g (line / 8) = .lores40)
    (x : Nat) : linePixel rs g line x = lores40Pixel g line x := by
  simp only [linePixel, h]

end Sys2Proof.Machine

namespace Sys2Proof.Proofs

open Sys2Proof.Machine

/-- Settles O59: an output row is drawn from its display line, half its number; and the hand-offs differ in RAM alone,
off the display pages. -/
theorem pictureDependsOnDisplayPages : Obligations.PictureDependsOnDisplayPages := by
  refine ⟨fun rs g line x => ?_, fun s main aux h => ?_⟩
  · have hline : 2 * line / 2 = (2 * line + 1) / 2 := by omega
    exact congrArg (linePixel rs g · x) hline
  · have hmain : SamePages main s.main := fun a ha => (h a ha).1
    have haux : SamePages aux s.aux := fun a ha => (h a ha).2
    rw [gpuMemory_withRam]
    apply render_withRam
    · simp only [gpuMemory]
      split
      · exact haux
      · exact hmain
    · simp only [gpuMemory]
      split
      · exact hmain
      · exact haux

/-- Settles O60: the cell's row and column are the quotients of the output row and column, and its upper 8 output rows
are its first four display lines. -/
theorem loresPicture : Obligations.LoresPicture := by
  intro rs g r c y x _ _ hy hx hmode
  have hrow : (16 * r + y) / 2 / 8 = r := by omega
  have hcol : (14 * c + x) / 14 = c := by omega
  have hhalf : (16 * r + y) / 2 % 8 < 4 ↔ y < 8 := by omega
  rw [paletteIndex, linePixel_of_lores40 rs (by rwa [hrow]), lores40Pixel, loresNibble_toNat, hrow, hcol]
  simp only [hhalf]

end Sys2Proof.Proofs
end

section
/-! SUPPORT. BRK with the RTI that returns from it (spec/60_exceptions.md R508), a host key as the keyboard latch takes
it (R515), and Reset as one state (spec/70_reset_and_hazards.md R540 to R546). -/

namespace Sys2Proof.Machine

/-! ### The exception and its return (R501, R508) -/

/-- A stack left as the exception left it: the return finds SP back where it was, P if B was clear and Unused set,
and the address pushed. -/
theorem SameStack.return_of_takeException {s u : State} (h : SameStack (takeException brkVector s) u)
    (hp : s.cpu.p &&& 0x30 = 0x20) :
    (returnFromException u).cpu = { u.cpu with pc := s.cpu.pc, sp := s.cpu.sp, p := s.cpu.p } := by
  have ⟨_, _, hsp⟩ := h
  rw [takeException_cpu] at hsp
  have h1 : u.cpu.sp + 1 = s.cpu.sp - 2 := by rw [hsp]; bv_omega
  have h2 : u.cpu.sp + 2 = s.cpu.sp - 1 := by rw [hsp]; bv_omega
  have h3 : u.cpu.sp + 3 = s.cpu.sp := by rw [hsp, BitVec.sub_add_cancel]
  obtain ⟨hhi, hlo, hstatus⟩ := stackByte_takeException s
  rw [returnFromException_cpu, h1, h2, h3, h.byte, h.byte, h.byte, hhi, hlo, hstatus, wordOf_hiByte_loByte]
  exact congrArg (fun p => { u.cpu with pc := s.cpu.pc, sp := s.cpu.sp, p := p }) (pulledStatus_pushedStatus hp)

/-! ### The keyboard (R515) -/

theorem keyDown_ready {s : State} (h : s.kbd.getLsbD 7 = false) (ascii : BitVec 7) :
    keyDown ascii s = { s with kbd := ascii.setWidth 8 ||| 0x80 } := by
  rw [keyDown, h]
  rfl

theorem keyDown_lost {s : State} (h : s.kbd.getLsbD 7 = true) (ascii : BitVec 7) : keyDown ascii s = s := by
  rw [keyDown, h]
  rfl

/-- The latch holds the code with the key-ready bit above it. -/
theorem setWidth_or_keyReady (ascii : BitVec 7) : ascii.setWidth 8 ||| 0x80 = BitVec.ofNat 8 (0x80 + ascii.toNat) := by
  revert ascii
  decide

/-- A printable key sends the low seven bits of its code. -/
theorem setWidth_and_low7 (code : Byte) : (code &&& 0x7F).setWidth 7 = BitVec.ofNat 7 (code.toNat % 128) := by
  revert code
  decide

/-! ### Diskettes (R416) -/

theorem DiskImage.size_of_wf {img : DiskImage} (h : img.wf = true) : img.size = 143360 := by
  rw [DiskImage.wf, Bool.and_eq_true, decide_eq_true_eq] at h
  exact h.1

theorem insertDisk_of_wf {img : DiskImage} (h : img.wf = true) (drive : Bool) (s : State) :
    hostEvent (.insertDisk drive img) s = setDrive drive (some img) s := by
  simp [hostEvent, h]

theorem insertDisk_of_not_wf {img : DiskImage} (h : ¬img.wf = true) (drive : Bool) (s : State) :
    hostEvent (.insertDisk drive img) s = s := by
  simp [hostEvent, h]

/-! ### Reset (R540 to R546) -/

/-- All that the Reset procedure does: the registers, PC from the vector as it is mapped before the switches are
reset, the switches and the disk controller's latches. -/
theorem resetProcedure_eq (s : State) :
    resetProcedure s =
      { s with
        cpu :=
          { s.cpu with
            a := 0, x := 0, y := 0, sp := 0xFD, p := 0x24
            pc := wordOf (mappedByte s 0xFFFD) (mappedByte s 0xFFFC) }
        bus := { addr := 0xFFFD, data := mappedByte s 0xFFFD, rw := .read, fastMode := false }
        sw := Switches.atReset
        disk := { s.disk with dataLatch := 0, q6 := false, q7 := false, drive2 := false, motorOn := false } } := by
  have hvector := memRead16_plain (a := resetVector) (by decide) (by decide)
    (onCpu (fun c => { c with a := 0, x := 0, y := 0, p := 0x24, sp := 0xFD }) s)
  rw [mappedByte_onCpu, mappedByte_onCpu] at hvector
  exact congrArg (fun r : Word × State => resetBus { r.2 with cpu := { r.2.cpu with pc := r.1 } }) hvector

/-! ### The mapping after Reset (R542) -/

section
variable {s : State} (hs : s.sw = Switches.atReset) {a : Word}
include hs

/-- Below the soft switches all is main RAM (R90 to R93). -/
theorem mappedByte_atReset_ram (ha : a.toNat ≤ 0xBFFF) : mappedByte s a = s.main.read a.toNat := by
  have hplace : readPlace s.sw a.toNat = .ram .main a.toNat := by
    rw [hs]
    by_cases hz : a.toNat ≤ 0x01FF
    · exact readPlace_zp hz
    · exact readPlace_body ⟨by omega, ha⟩
  exact mappedByte_ram hplace

theorem storedAt_atReset_ram (ha : a.toNat ≤ 0xBFFF) : storedAt s a = some (.main, a.toNat) := by
  have hplace : writePlace s.sw a.toNat = .ram .main a.toNat := by
    rw [hs]
    by_cases hz : a.toNat ≤ 0x01FF
    · exact writePlace_zp hz
    · exact writePlace_body ⟨by omega, ha⟩
  exact storedAt_ram hplace

/-- Above $CFFF nothing is written (R99). -/
theorem storedAt_atReset_top (ha : 0xD000 ≤ a.toNat) : storedAt s a = none := by
  have hplace : writePlace s.sw a.toNat = .nothing := by
    rw [hs]
    by_cases hd : a.toNat ≤ 0xDFFF
    · exact writePlace_bankD ⟨ha, hd⟩
    · exact writePlace_top (by omega)
  exact storedAt_nothing hplace

/-- The slot ROM area after Reset: the firmware page and the boot PROM are all it shows (R94). -/
theorem mappedByte_atReset_slots (ha : 0xC100 ≤ a.toNat ∧ a.toNat ≤ 0xC7FF) :
    mappedByte s a =
      if 0xC300 ≤ a.toNat ∧ a.toNat ≤ 0xC3FF then romRead s.params.sysRom (a.toNat - 0xC000)
      else if 0xC600 ≤ a.toNat ∧ a.toNat ≤ 0xC6FF then romRead s.params.bootProm (a.toNat - 0xC600)
      else 0 := by
  have hslot : s.sw.intCxRom = false := by rw [hs]; rfl
  split_ifs with hfirmware hprom
  · exact mappedByte_sysRom (readPlace_firmware (.inl hfirmware))
  · exact mappedByte_bootProm (by rw [readPlace_slots (by omega), hslot, if_pos hprom]; rfl)
  · exact mappedByte_nothing (by rw [readPlace_slots (by omega), hslot, if_neg hprom]; rfl)

end

end Sys2Proof.Machine

namespace Sys2Proof.Proofs

open Sys2Proof.Machine

/-- Settles O35: BRK is the exception after two bytes and 7 cycles, RTI the return from it after 6. -/
theorem brkThenRti : Obligations.BrkThenRti := by
  intro sig s t u _ hp ht hu
  obtain rfl := execBrk_next ht
  -- resolving in Implied mode moves nothing of the stack
  have hready : SameStack (takeException brkVector (prepare .implied ⟨2, 7, 0⟩ 0 s)) (prepare .implied ⟨1, 6, 0⟩ 0 u) :=
    hu
  have hreturn := hready.return_of_takeException (by rw [prepare_p]; exact hp)
  refine ⟨_, rfl, ?_⟩
  rw [hreturn, takeException_cpu]
  exact ⟨rfl, rfl, rfl, rfl, rfl, rfl, rfl, rfl, rfl, rfl, rfl⟩

/-- Settles O50, event by event: the keys by the keyboard latch, the diskettes by the check of the image. -/
theorem hostEventResult : Obligations.HostEventResult := by
  intro s
  refine ⟨fun ascii => ⟨fun h => ?_, fun h => keyDown_lost h ascii⟩, fun code => ?_, fun e he => ?_,
    fun _ => ⟨rfl, rfl, rfl⟩, fun _ => ⟨rfl, rfl⟩, fun _ => rfl, fun h => ?_, fun h => ?_,
    fun img => ⟨fun h drive => ?_, fun h => ⟨insertDisk_of_wf h false s, insertDisk_of_wf h true s⟩⟩, rfl, rfl⟩
  · rw [← setWidth_or_keyReady]
    exact keyDown_ready h ascii
  · rw [← setWidth_and_low7]
    rfl
  · fin_cases he <;> rfl
  · simp [hostEvent, h]
  · simp [hostEvent, h]
  · exact insertDisk_of_not_wf (fun hw => h (DiskImage.size_of_wf hw)) drive s

/-- Settles O58: the three ranges of the count. -/
theorem frameSequencer : Obligations.FrameSequencer := by
  intro n s c
  have hends : frameEnds n s = decide (17030 ≤ c) := rfl
  have hcount : frameCount n s = c := rfl
  refine ⟨fun h => ?_, fun h => ?_, fun h => ?_, ?_, fun h => ?_, fun h => ?_⟩
  · simp [afterTick, hends, hcount, Config.vblankEnd, show ¬17030 ≤ c by omega, show ¬4550 ≤ c by omega]
  · simp [afterTick, hends, hcount, Config.vblankEnd, show ¬17030 ≤ c by omega, h.1]
  · simp [afterTick, hends, h]
  · simp [deliveredFrame, hends]
  · simp [startOfRun, h]
  · simp [startOfRun, h]

/-- Settles O55: the values from Reset as one state, the mapping from the switches it leaves. -/
theorem resetOfDevices : Obligations.ResetOfDevices := by
  intro s t
  have ht : t = freeMirrors (resetProcedure s) := rfl
  rw [resetProcedure_eq] at ht
  clear_value t
  subst ht
  refine ⟨rfl, rfl, rfl, rfl, rfl, rfl, rfl, rfl, rfl, rfl, rfl, rfl, rfl, rfl, rfl, rfl, rfl, rfl, rfl, rfl, rfl, rfl,
    ⟨rfl, rfl, rfl, rfl, rfl, rfl⟩, ⟨rfl, rfl, rfl, rfl, rfl⟩,
    fun a => ⟨fun ha => ⟨?_, ?_⟩, ?_, fun ha => ⟨?_, ?_⟩, rfl, rfl⟩⟩
  · exact mappedByte_atReset_ram rfl ha
  · exact storedAt_atReset_ram rfl ha
  · exact mappedByte_atReset_slots rfl
  · exact mappedByte_atReset rfl ha
  · exact storedAt_atReset_top rfl ha

/-- Settles O56, from Reset as one state. -/
theorem warmResetResult : Obligations.WarmResetResult := by
  intro s
  rw [warmReset, resetProcedure_eq]
  exact ⟨rfl, rfl, rfl, rfl, rfl, rfl, rfl, rfl, rfl⟩

end Sys2Proof.Proofs
end

section
/-! SUPPORT. The interrupt lines, which nothing looks at (spec/60_exceptions.md R504), and the cycles of one
instruction (spec/70_reset_and_hazards.md R556): one statement of both per instruction, from its operation. -/

namespace Sys2Proof.Machine

/-! ### What passes the interrupt lines by -/

/-- The registers with other levels on the two lines. -/
def Cpu.setLines (irq nmi : Bool) (c : Cpu) : Cpu := { c with irq := irq, nmi := nmi }

/-- A result with other levels on the two lines. -/
def Result.withLines (irq nmi : Bool) : Result → Result
  | .next t => .next (Machine.withLines irq nmi t)
  | .fault r => .fault r
  | .refused r => .refused r

section
variable (irq nmi : Bool)

theorem withLines_eq (s : State) : withLines irq nmi s = withCpu s (s.cpu.setLines irq nmi) := rfl

theorem memRead_withLines (a : Word) (s : State) :
    memRead a (withLines irq nmi s) = ((memRead a s).1, withLines irq nmi (memRead a s).2) := by
  rw [withLines_eq, memRead_withCpu, withLines_eq, memRead_cpu]

theorem memWrite_withLines (a : Word) (v : Byte) (s : State) :
    memWrite a v (withLines irq nmi s) = withLines irq nmi (memWrite a v s) := by
  rw [withLines_eq, memWrite_withCpu, withLines_eq, memWrite_cpu]

theorem memRead16_withLines (a : Word) (s : State) :
    memRead16 a (withLines irq nmi s) = ((memRead16 a s).1, withLines irq nmi (memRead16 a s).2) := by
  simp only [memRead16, memRead_withLines]

theorem push8_withLines (v : Byte) (s : State) : push8 v (withLines irq nmi s) = withLines irq nmi (push8 v s) := by
  have h : push8 v (withLines irq nmi s) =
      onCpu (fun c => { c with sp := s.cpu.sp - 1 }) (memWrite (stackAddr s.cpu.sp) v (withLines irq nmi s)) := rfl
  rw [h, memWrite_withLines]
  rfl

theorem pull8_withLines (s : State) :
    pull8 (withLines irq nmi s) = ((pull8 s).1, withLines irq nmi (pull8 s).2) :=
  memRead_withLines irq nmi (stackAddr (s.cpu.sp + 1)) (onCpu (fun c => { c with sp := s.cpu.sp + 1 }) s)

theorem push16_withLines (w : Word) (s : State) :
    push16 w (withLines irq nmi s) = withLines irq nmi (push16 w s) := by
  simp only [push16, push8_withLines]

theorem pull16_withLines (s : State) :
    pull16 (withLines irq nmi s) = ((pull16 s).1, withLines irq nmi (pull16 s).2) := by
  simp only [pull16, pull8_withLines]

theorem completeOperand_withLines (m wanted : Mode) (w : Word) (s : State) :
    completeOperand m wanted w (withLines irq nmi s) =
      ((completeOperand m wanted w s).1, withLines irq nmi (completeOperand m wanted w s).2) := by
  have h := completeOperand_withCpu m wanted w s (s.cpu.setLines irq nmi) rfl
  rw [withLines_eq, h, withLines_eq, completeOperand_cpu]

theorem prepare_withLines (m : Mode) (c : OpCost) (w : Word) (s : State) :
    prepare m c w (withLines irq nmi s) = withLines irq nmi (prepare m c w s) := by
  have h := resolve_withCpu m w s (s.cpu.setLines irq nmi) rfl rfl rfl
  rw [prepare, withLines_eq, h]
  simp only [advance, withLines, withCpu, prepare, resolve_cpu, Cpu.setLines]

theorem fetch_withLines (s : State) :
    fetch (withLines irq nmi s) = ((fetch s).1, withLines irq nmi (fetch s).2) := by
  have hpc : (withLines irq nmi s).cpu.pc = s.cpu.pc := rfl
  have hparams : (withLines irq nmi s).params = s.params := rfl
  simp only [fetch, hpc, hparams, memRead_withLines]
  split <;> rfl

end

/-! ### Register changes and operations -/

/-- A number of cycles between two bounds passes from `s` to `t`. -/
def Spends (least most : Nat) (s t : State) : Prop :=
  ∃ n : Nat, t.cpu.cycleCount = s.cpu.cycleCount + BitVec.ofNat 64 n ∧ least ≤ n ∧ n ≤ most

theorem Spends.trans {l m l' m' : Nat} {s t u : State} (h : Spends l m s t) (k : Spends l' m' t u) :
    Spends (l + l') (m + m') s u := by
  obtain ⟨n, hn, hl, hm⟩ := h
  obtain ⟨n', hn', hl', hm'⟩ := k
  refine ⟨n + n', ?_, by omega, by omega⟩
  rw [hn', hn, BitVec.ofNat_add, BitVec.add_assoc]

/-- No cycle at all. -/
theorem Spends.of_eq {s t : State} (h : t.cpu.cycleCount = s.cpu.cycleCount) (most : Nat) : Spends 0 most s t :=
  ⟨0, by rw [h, BitVec.add_zero], Nat.le_refl 0, Nat.zero_le most⟩

/-- The base cycles, and the page penalty where the operand crosses a page (R141). -/
theorem prepare_spends (m : Mode) (c : OpCost) (w : Word) (s : State) :
    Spends c.cycles (c.cycles + c.pageCycles) s (prepare m c w s) := by
  refine ⟨c.cycles + if (resolve m w s).paged then c.pageCycles else 0, by rw [prepare_cpu], Nat.le_add_right _ _, ?_⟩
  split <;> omega

/-- A register change that does not look at the interrupt lines, leaves them, and counts at most 2 cycles. -/
structure Cpu.Ordinary (g : Cpu → Cpu) : Prop where
  lines : ∀ irq nmi c, g (c.setLines irq nmi) = (g c).setLines irq nmi
  cycles : ∀ c, ∃ n ≤ 2, (g c).cycleCount = c.cycleCount + BitVec.ofNat 64 n

/-- A change that counts no cycle, as those of the byte registers, P and PC alone. -/
theorem Cpu.Ordinary.of_cycleCount {g : Cpu → Cpu}
    (lines : ∀ irq nmi c, g (c.setLines irq nmi) = (g c).setLines irq nmi := by exact fun _ _ _ => rfl)
    (cycles : ∀ c, (g c).cycleCount = c.cycleCount := by exact fun _ => rfl) : Cpu.Ordinary g :=
  ⟨lines, fun c => ⟨0, by decide, by rw [cycles, BitVec.add_zero]⟩⟩

/-- A computation applied to A (R250). -/
theorem accumulator_ordinary (f : Byte → Byte → Byte × Byte) :
    Cpu.Ordinary (fun c => { c with a := (f c.a c.p).1, p := (f c.a c.p).2 }) := .of_cycleCount

/-- A branch counts 0, 1 or 2 cycles (R264, R265). -/
theorem branch_ordinary (f : Flag) (want : Bool) :
    Cpu.Ordinary (fun c => if getFlag c.p f = want then takeBranch c else c) where
  lines irq nmi c := by
    have hp : (c.setLines irq nmi).p = c.p := rfl
    rw [hp]
    split <;> rfl
  cycles c := by
    split
    · refine ⟨if pageDiffers c.al c.pc then 2 else 1, ?_, rfl⟩
      split <;> decide
    · exact ⟨0, by decide, (BitVec.add_zero _).symm⟩

/-- What an instruction does once its operand is resolved: blind to the interrupt lines, and at most 2 cycles. -/
structure Operation (op : State → State) : Prop where
  lines : ∀ irq nmi s, op (withLines irq nmi s) = withLines irq nmi (op s)
  cycles : ∀ s, Spends 0 2 s (op s)

section
variable {op : State → State}

theorem Operation.of_cycleCount (lines : ∀ irq nmi s, op (withLines irq nmi s) = withLines irq nmi (op s))
    (cycles : ∀ s, (op s).cpu.cycleCount = s.cpu.cycleCount) : Operation op :=
  ⟨lines, fun s => .of_eq (cycles s) 2⟩

theorem Operation.onCpu {g : Cpu → Cpu} (hg : Cpu.Ordinary g) : Operation (onCpu g) where
  lines irq nmi s := congrArg (withCpu s) (hg.lines irq nmi s.cpu)
  cycles s := by
    obtain ⟨n, hn, h⟩ := hg.cycles s.cpu
    exact ⟨n, h, Nat.zero_le n, hn⟩

/-- The operation of a read instruction (R148). -/
theorem Operation.read {g : Byte → Cpu → Cpu} (hg : ∀ v, Cpu.Ordinary (g v)) :
    Operation (fun t => Machine.onCpu (g (memRead t.cpu.al t).1) (memRead t.cpu.al t).2) where
  lines irq nmi s := by
    have hal : (withLines irq nmi s).cpu.al = s.cpu.al := rfl
    rw [hal, memRead_withLines]
    exact (Operation.onCpu (hg _)).lines irq nmi _
  cycles s := by
    have h := (Operation.onCpu (hg (memRead s.cpu.al s).1)).cycles (memRead s.cpu.al s).2
    rwa [Spends, memRead_cpu] at h

/-- The operation of a write instruction (R148). -/
theorem Operation.write {g : Cpu → Byte} (hg : ∀ irq nmi c, g (c.setLines irq nmi) = g c) :
    Operation (fun t => memWrite t.cpu.al (g t.cpu) t) := by
  refine .of_cycleCount (fun irq nmi s => ?_) fun s => by rw [memWrite_cpu]
  rw [memWrite_withLines]
  exact congrArg (fun v => withLines irq nmi (memWrite s.cpu.al v s)) (hg irq nmi s.cpu)

/-- The operation of a read-modify-write instruction (R148). -/
theorem Operation.modify (f : Byte → Byte → Byte × Byte) :
    Operation (fun t =>
      Machine.onCpu (fun c => { c with p := (f (memRead t.cpu.al t).1 (memRead t.cpu.al t).2.cpu.p).2 })
        (memWrite t.cpu.al (f (memRead t.cpu.al t).1 (memRead t.cpu.al t).2.cpu.p).1 (memRead t.cpu.al t).2)) := by
  refine .of_cycleCount (fun irq nmi s => ?_) fun s => by rw [onCpu_cpu, memWrite_cpu, memRead_cpu]
  have hal : (withLines irq nmi s).cpu.al = s.cpu.al := rfl
  rw [hal, memRead_withLines, memWrite_withLines]
  rfl

theorem Operation.push {v : Cpu → Byte} (hv : ∀ irq nmi c, v (c.setLines irq nmi) = v c) :
    Operation (fun t => push8 (v t.cpu) t) := by
  refine .of_cycleCount (fun irq nmi s => ?_) fun s => by rw [push8_cpu]
  rw [push8_withLines]
  exact congrArg (fun b => withLines irq nmi (push8 b s)) (hv irq nmi s.cpu)

theorem Operation.pullA : Operation pullA := by
  refine .of_cycleCount (fun irq nmi s => ?_) fun s => by rw [pullA_cpu]
  rw [Machine.pullA, pull8_withLines]
  rfl

theorem Operation.pullP : Operation pullP := by
  refine .of_cycleCount (fun irq nmi s => ?_) fun s => by rw [pullP_cpu]
  rw [Machine.pullP, pull8_withLines]
  rfl

theorem Operation.call : Operation callSubroutine := by
  refine .of_cycleCount (fun irq nmi s => ?_) fun s => by rw [callSubroutine_cpu]
  rw [callSubroutine, push16_withLines]
  rfl

theorem Operation.returnFromSubroutine : Operation returnFromSubroutine := by
  refine .of_cycleCount (fun irq nmi s => ?_) fun s => by rw [returnFromSubroutine_cpu]
  rw [Machine.returnFromSubroutine, pull16_withLines]
  rfl

theorem exceptionEntered_withLines (irq nmi : Bool) (s : State) :
    exceptionEntered (withLines irq nmi s) = withLines irq nmi (exceptionEntered s) := by
  have hpc : (withLines irq nmi s).cpu.pc = s.cpu.pc := rfl
  have hp : (withLines irq nmi s).cpu.p = s.cpu.p := rfl
  rw [exceptionEntered, hpc, hp, push16_withLines, push8_withLines]
  rfl

/-- The exception samples no line either (R501, R504). -/
theorem Operation.takeException : Operation (takeException brkVector) := by
  refine .of_cycleCount (fun irq nmi s => ?_) fun s => by rw [takeException_cpu]
  rw [takeException_eq, exceptionEntered_withLines, memRead16_withLines]
  rfl

theorem Operation.returnFromException : Operation returnFromException := by
  refine .of_cycleCount (fun irq nmi s => ?_) fun s => by rw [returnFromException_cpu]
  have hsplit (t : State) : Machine.returnFromException t =
      Machine.onCpu (fun c => { c with pc := (pull16 (Machine.pullP t)).1 }) (pull16 (Machine.pullP t)).2 := rfl
  rw [hsplit, Operation.pullP.lines, pull16_withLines]
  rfl

end

/-! ### Every instruction -/

/-- The instruction does the same whatever the interrupt lines carry, and where it completes its cycles are its base
cycles, at most its page penalty and 2 more. -/
structure Instr.Regular (i : Instr) : Prop where
  lines : ∀ irq nmi s, exec i (withLines irq nmi s) = Result.withLines irq nmi (exec i s)
  cycles : ∀ s t, exec i s = .next t →
    Spends (costOf s.params i).cycles ((costOf s.params i).cycles + (costOf s.params i).pageCycles + 2) s t

section
variable {i : Instr} {m : Mode} {c : OpCost} {w : Word}

/-- The shape of a documented instruction: its operand resolved at its row's cost, then its operation (R141). -/
theorem Instr.Regular.of_operation {op : State → State} (ho : Operation op)
    (hr : ∀ s, exec i s = .next (op (prepare m c w s))) (hc : ∀ p, costOf p i = c) : Instr.Regular i where
  lines irq nmi s := by
    rw [hr, hr, prepare_withLines, ho.lines]
    rfl
  cycles s t ht := by
    rw [hr] at ht
    cases ht
    rw [hc]
    exact (prepare_spends m c w s).trans (ho.cycles _)

/-- The shape of an undocumented one: the cost is its ILLEGAL_TABLE entry's (R302). -/
theorem Instr.Regular.undocumented {op : Byte} (hr : ∀ s, exec i s = .next (undocumentedOp op m c w s))
    (hc : ∀ p, costOf p i = (illegalEntry p op ⟨m, c⟩).cost) : Instr.Regular i where
  lines irq nmi s := by
    have hparams : (withLines irq nmi s).params = s.params := rfl
    rw [hr, hr]
    simp only [undocumentedOp, hparams, completeOperand_withLines, prepare_withLines]
    rfl
  cycles s t ht := by
    rw [hr, undocumentedOp] at ht
    rw [hc]
    obtain ⟨e, he⟩ : ∃ e, illegalEntry s.params op ⟨m, c⟩ = e := ⟨_, rfl⟩
    rw [he] at ht ⊢
    cases ht
    obtain ⟨n, hn, hleast, hmost⟩ :=
      prepare_spends e.mode e.cost (completeOperand m e.mode w s).1 (completeOperand m e.mode w s).2
    rw [completeOperand_cpu] at hn
    exact ⟨n, hn, hleast, by omega⟩

theorem Instr.Regular.registers {g : Cpu → Cpu} (hg : Cpu.Ordinary g)
    (hr : ∀ s, exec i s = .next (onCpu g (prepare m c w s))) (hc : ∀ p, costOf p i = c) : Instr.Regular i :=
  .of_operation (.onCpu hg) hr hc

theorem Instr.Regular.read {g : Byte → Cpu → Cpu} (hg : ∀ v, Cpu.Ordinary (g v))
    (hr : ∀ s, exec i s = .next (readOp m c w g s)) (hc : ∀ p, costOf p i = c) : Instr.Regular i :=
  .of_operation (.read hg) hr hc

theorem Instr.Regular.write {g : Cpu → Byte} (hg : ∀ irq nmi c, g (c.setLines irq nmi) = g c)
    (hr : ∀ s, exec i s = .next (writeOp m c w g s)) (hc : ∀ p, costOf p i = c) : Instr.Regular i :=
  .of_operation (.write hg) hr hc

theorem Instr.Regular.modify {f : Byte → Byte → Byte × Byte}
    (hr : ∀ s, exec i s = .next (modifyOp m c w f s)) (hc : ∀ p, costOf p i = c) : Instr.Regular i :=
  .of_operation (.modify f) hr hc

end

/-- Whatever the table marks undocumented is the no-operation of its ILLEGAL_TABLE entry (R300, R302). -/
theorem undocumented_regular {i : Instr} (h : (opRow i.opcode).documented = false) : Instr.Regular i := by
  obtain ⟨b1, b2, hi⟩ := i.exists_operands
  have hr := exec_undocumented h b1 b2
  rw [hi] at hr
  exact .undocumented hr fun p => by rw [costOf, h]; rfl

/-- BRK, in both readings of its opcode (R293, R294). -/
theorem brk_regular (sig : Byte) : Instr.Regular (.brk sig) where
  lines irq nmi s := by
    cases hmode : s.params.brkMode with
    | vector =>
      rw [exec_brk_vector hmode, exec_brk_vector (by exact hmode), prepare_withLines, Operation.takeException.lines]
      rfl
    | halt =>
      rw [exec_brk_halt hmode, exec_brk_halt (by exact hmode)]
      rfl
  cycles s t ht := by
    obtain rfl := execBrk_next ht
    exact (prepare_spends .implied ⟨2, 7, 0⟩ 0 s).trans (Operation.takeException.cycles _)

/-- Every instruction, by the shape of its meaning (R147, R148) and its row of the opcode table (R150, R302). -/
theorem instr_regular (i : Instr) : Instr.Regular i := by
  cases i with
  | ldaImm _ | ldxImm _ | ldyImm _ | adcImm _ | sbcImm _ | andImm _ | oraImm _ | eorImm _ | cmpImm _ | cpxImm _
  | cpyImm _ | tax | tay | txa | tya | tsx | txs | inx | iny | dex | dey | clc | sec | cli | sei
  | cld | sed | clv | jmpAbs _ | jmpInd _ =>
    exact .registers .of_cycleCount (fun _ => rfl) fun _ => rfl
  | aslAcc | lsrAcc | rolAcc | rorAcc => exact .registers (accumulator_ordinary _) (fun _ => rfl) fun _ => rfl
  | nop => exact .registers (g := fun c => c) .of_cycleCount (fun _ => rfl) fun _ => rfl
  | ldaZp _ | ldaZpx _ | ldaAbs _ | ldaAbx _ | ldaAby _ | ldaIzx _ | ldaIzy _ | ldxZp _ | ldxZpy _ | ldxAbs _
  | ldxAby _ | ldyZp _ | ldyZpx _ | ldyAbs _ | ldyAbx _ | adcZp _ | adcZpx _ | adcAbs _ | adcAbx _ | adcAby _
  | adcIzx _ | adcIzy _ | sbcZp _ | sbcZpx _ | sbcAbs _ | sbcAbx _ | sbcAby _ | sbcIzx _ | sbcIzy _ | andZp _
  | andZpx _ | andAbs _ | andAbx _ | andAby _ | andIzx _ | andIzy _ | oraZp _ | oraZpx _ | oraAbs _ | oraAbx _
  | oraAby _ | oraIzx _ | oraIzy _ | eorZp _ | eorZpx _ | eorAbs _ | eorAbx _ | eorAby _ | eorIzx _ | eorIzy _
  | cmpZp _ | cmpZpx _ | cmpAbs _ | cmpAbx _ | cmpAby _ | cmpIzx _ | cmpIzy _ | cpxZp _ | cpxAbs _ | cpyZp _
  | cpyAbs _ | bitZp _ | bitAbs _ =>
    exact .read (fun _ => .of_cycleCount) (fun _ => rfl) fun _ => rfl
  | staZp _ | staZpx _ | staAbs _ | staAbx _ | staAby _ | staIzx _ | staIzy _ | stxZp _ | stxZpy _ | stxAbs _ | styZp _
  | styZpx _ | styAbs _ =>
    exact .write (fun _ _ _ => rfl) (fun _ => rfl) fun _ => rfl
  | incZp _ | incZpx _ | incAbs _ | incAbx _ | decZp _ | decZpx _ | decAbs _ | decAbx _ | aslZp _ | aslZpx _ | aslAbs _
  | aslAbx _ | lsrZp _ | lsrZpx _ | lsrAbs _ | lsrAbx _ | rolZp _ | rolZpx _ | rolAbs _ | rolAbx _ | rorZp _ | rorZpx _
  | rorAbs _ | rorAbx _ =>
    exact .modify (fun _ => rfl) fun _ => rfl
  | bcc _ | bcs _ | beq _ | bne _ | bmi _ | bpl _ | bvc _ | bvs _ =>
    exact .registers (branch_ordinary _ _) (fun _ => rfl) fun _ => rfl
  | jsr _ => exact .of_operation .call (fun _ => rfl) fun _ => rfl
  | rts => exact .of_operation .returnFromSubroutine (fun _ => rfl) fun _ => rfl
  | pha => exact .of_operation (.push (v := fun c => c.a) fun _ _ _ => rfl) (fun _ => rfl) fun _ => rfl
  | php => exact .of_operation (.push (v := fun c => pushedStatus c.p) fun _ _ _ => rfl) (fun _ => rfl) fun _ => rfl
  | pla => exact .of_operation .pullA (fun _ => rfl) fun _ => rfl
  | plp => exact .of_operation .pullP (fun _ => rfl) fun _ => rfl
  | brk sig => exact brk_regular sig
  | rti => exact .of_operation .returnFromException (fun _ => rfl) fun _ => rfl
  | _ => exact undocumented_regular rfl

/-! ### Between ticks (R510, R515) -/

section
variable (irq nmi : Bool)

theorem startOfRun_withLines (s : State) : startOfRun (withLines irq nmi s) = withLines irq nmi (startOfRun s) := by
  rw [startOfRun, startOfRun, apply_ite (withLines irq nmi)]
  rfl

theorem keyDown_withLines (ascii : BitVec 7) (s : State) :
    keyDown ascii (withLines irq nmi s) = withLines irq nmi (keyDown ascii s) := by
  rw [keyDown, keyDown, apply_ite (withLines irq nmi)]
  rfl

theorem warmReset_withLines (s : State) : warmReset (withLines irq nmi s) = withLines irq nmi (warmReset s) := by
  rw [warmReset, resetProcedure_eq, warmReset, resetProcedure_eq]
  rfl

theorem hostEvent_withLines (e : HostEvent) (s : State) :
    hostEvent e (withLines irq nmi s) = withLines irq nmi (hostEvent e s) := by
  cases e with
  | keyDown _ | printableKey _ | namedKey _ => exact keyDown_withLines irq nmi _ s
  | resetKey =>
    have hcontrol : (withLines irq nmi s).host.controlHeld = s.host.controlHeld := rfl
    rw [hostEvent, hostEvent, hcontrol, warmReset_withLines, apply_ite (withLines irq nmi)]
  | insertDisk drive img => exact (apply_ite (withLines irq nmi) (img.wf = true) (setDrive drive (some img) s) s).symm
  | modifierKey _ _ | controlKey _ | ejectDisk _ | setColor _ | setMonoColor _ => rfl

theorem hostEvents_withLines (es : List HostEvent) (s : State) :
    hostEvents es (withLines irq nmi s) = withLines irq nmi (hostEvents es s) := by
  induction es generalizing s with
  | nil => rfl
  | cons e es ih =>
    have hcons (t : State) : hostEvents (e :: es) t = hostEvents es (hostEvent e t) := rfl
    rw [hcons, hcons, hostEvent_withLines, ih]

theorem deliverEvents_withLines (s : State) :
    deliverEvents (withLines irq nmi s) = withLines irq nmi (deliverEvents s) := by
  have hschedule : (withLines irq nmi s).host.schedule = s.host.schedule := rfl
  unfold deliverEvents
  rw [hschedule]
  cases s.host.schedule with
  | nil => rfl
  | cons es rest => exact hostEvents_withLines irq nmi es { s with host := { s.host with schedule := rest } }

theorem beforeTick_withLines (s : State) : beforeTick (withLines irq nmi s) = withLines irq nmi (beforeTick s) := by
  rw [beforeTick, startOfRun_withLines, deliverEvents_withLines, beforeTick]

theorem afterTick_withLines (n : Nat) (s : State) :
    afterTick n (withLines irq nmi s) = withLines irq nmi (afterTick n s) := by
  rw [afterTick, afterTick, apply_ite (withLines irq nmi)]
  rfl

theorem tick_withLines (s : State) : tick (withLines irq nmi s) = Result.withLines irq nmi (tick s) := by
  rw [tick, fetch_withLines, (instr_regular _).lines, tick]

/-- No part of a step looks at the lines (R504). -/
theorem step_withLines (s : State) : step (withLines irq nmi s) = Result.withLines irq nmi (step s) := by
  unfold step
  rw [beforeTick_withLines, tick_withLines]
  cases tick (beforeTick s) with
  | next t => exact congrArg Host.Outcome.next (afterTick_withLines irq nmi _ t)
  | fault r => rfl
  | refused r => rfl

end

end Sys2Proof.Machine

namespace Sys2Proof.Proofs

open Sys2Proof.Machine

/-- Settles O8: the cost of the operand resolved, and at most 2 cycles in the operation. -/
theorem cycleBounds : Obligations.CycleBounds := fun i s t ht => (instr_regular i).cycles s t ht

/-- Settles O9: other levels on the lines pass through every part of a step. -/
theorem interruptLinesDoNothing : Obligations.InterruptLinesDoNothing := by
  intro irq nmi s
  rw [step_withLines]
  constructor
  · intro t ht
    rw [ht]
    rfl
  · intro r hr
    rw [hr]
    rfl

end Sys2Proof.Proofs
end
